-- ==== Sys2Proof/Word.lean ====
section
/-! DEFINITION. The word types of the links (a byte) and the fixed tables of the part: a table of `n` places is a
`Vector`, read with `tget`, written with `tset`, built place by place with `tof`. -/

namespace Sys2Proof

/-- A byte on a serial link or in a frame (Tables 1-1 and 1-2). -/
abbrev Byte := BitVec 8

/-- A slot number, 0 to 23 (Conventions, "Slot numbers"). -/
abbrev Slot := Fin 24

/-- A recipe block number, 0 to 31 (Section 7). -/
abbrev BlockNo := Fin 32

/-- A tote record number, 0 to 7 (Section 10). -/
abbrev ToteNo := Fin 8

/-- A measure id, 0 to 7 (Table 4-1). -/
abbrev MeasureId := Fin 8

/-- The entry of a table at an index. -/
def tget {α : Type} {n : Nat} (v : Vector α n) (i : Fin n) : α := v[i]

/-- A table with one entry replaced. -/
def tset {α : Type} {n : Nat} (v : Vector α n) (i : Fin n) (x : α) : Vector α n := v.set i x

/-- The table whose entry at each index is given by a function. -/
def tof {α : Type} {n : Nat} (f : Fin n → α) : Vector α n := Vector.ofFn f

@[simp] theorem tget_tset_same {α : Type} {n : Nat} (v : Vector α n) (i : Fin n) (x : α) :
    tget (tset v i x) i = x := by
  simp [tget, tset]

theorem tget_tset_ne {α : Type} {n : Nat} (v : Vector α n) (i j : Fin n) (x : α) (h : j ≠ i) :
    tget (tset v i x) j = tget v j := by
  have h' : (i : Nat) ≠ j := fun e => h (Fin.ext e.symm)
  simp [tget, tset, h']

theorem tget_tset {α : Type} {n : Nat} (v : Vector α n) (i j : Fin n) (x : α) :
    tget (tset v i x) j = if j = i then x else tget v j := by
  split
  · next h => subst h; exact tget_tset_same v j x
  · next h => exact tget_tset_ne v i j x h

@[simp] theorem tget_tof {α : Type} {n : Nat} (f : Fin n → α) (i : Fin n) : tget (tof f) i = f i := by
  simp [tget, tof]

@[simp] theorem tget_replicate {α : Type} {n : Nat} (x : α) (i : Fin n) :
    tget (Vector.replicate n x) i = x := by
  simp [tget]

theorem table_ext {α : Type} {n : Nat} (v w : Vector α n) (h : ∀ i, tget v i = tget w i) : v = w := by
  apply Vector.ext
  intro i hi
  exact h ⟨i, hi⟩

/-- All slot numbers, in slot order. -/
def allSlots : List Slot := List.finRange 24

/-- All measure ids, ascending. -/
def allMeasures : List MeasureId := List.finRange 8

/-- All recipe block numbers, ascending. -/
def allBlocks : List BlockNo := List.finRange 32

/-- All tote record numbers, ascending. -/
def allTotes : List ToteNo := List.finRange 8

end Sys2Proof
end

