-- ==== Sys2Proof/Syntax.lean ====
section
/-! DEFINITION. The commands of the part: one constructor for each row of spec/opcode_table.json.

Two kinds of command stand side by side, as in the table. A REQUEST carries the values of its arguments as the frame's
bytes give them (R6), before any range check, so that an argument outside its range is refused by the meaning (R7); a
request taken on several links carries its link first. An EVENT is one step of the part itself: it names the slot or
record it concerns, and whatever the outside world decides in it (a byte, the switch levels, a sensor's reply, whether
the cells of a recipe block verified). What an event delivers from one block to another stands in State. -/

namespace Sys2Proof

/-- The three links: test (TLI), handler (HLI) and line (LLI). -/
inductive Link where
  | test
  | handler
  | line
  deriving DecidableEq, Repr

/-- A sensor's reply on the sensor bus: two value bytes, most significant first, and a check byte (R99). -/
structure SensorReply where
  high : Byte
  low : Byte
  check : Byte
  deriving DecidableEq, Repr

/-- An optional argument as it stands in a frame: the presence byte and the value sent with it (R6). -/
structure OptArg where
  presence : Nat
  value : Int
  deriving DecidableEq, Repr

/-- The commands. Each constructor names its table row and the rule that governs it. -/
inductive Instr where
  /-- REQUEST_FRAME (R2): the bytes that complete a request frame arrive on a link. -/
  | requestFrame (link : Link) (bytes : List Byte)
  /-- LENGTH_FAULT (R1): a length byte arrives. -/
  | lengthFault (link : Link) (length : Byte)
  /-- FRAME_TIMEOUT (R1): 20 ms have passed without a byte. -/
  | frameTimeout (link : Link)
  /-- RESPONSE_SENT (R4): the first frame of the output list has been sent. -/
  | responseSent (link : Link)
  /-- RESET_EFFECT (R13): power-on, or the end of the RACK RESET response. -/
  | resetEffect
  /-- TAKE_NOTICE (R10). -/
  | takeNotice (link : Link)
  /-- SET_LEVELS (R11): entries of kind code and level. -/
  | setLevels (link : Link) (entries : List (Nat × Nat))
  /-- SET_MASK (R12). -/
  | setMask (link : Link) (level : Nat)
  /-- READ_CLOCK (R21). -/
  | readClock (link : Link)
  /-- SET_TIME (R20). -/
  | setTime (seconds millis : Nat)
  /-- RACK_TIME_ADVANCE (R18): one millisecond of the reference oscillator. -/
  | rackTimeAdvance
  /-- DEADLINE_EXPIRY (R26): the slot's oldest deadline expiry reaches SSQ. -/
  | deadlineExpiry (slot : Slot)
  /-- ACCOUNTING_TICK (R22): an accounting tick reaches TAU. -/
  | accountingTick
  /-- CREDIT_EVENT (R108): the slot's part of an accounting tick is served. -/
  | creditEvent (slot : Slot)
  /-- SAMPLE (R30): the raw levels of the 24 presence and the 24 latch inputs, bit i for slot i, 1 for HIGH. -/
  | sample (presence latch : BitVec 24)
  /-- PRESENCE_PRESENT_AT_SSQ (R51). -/
  | presencePresentAtSsq (slot : Slot)
  /-- PRESENCE_ABSENT_AT_SSQ (R70). -/
  | presenceAbsentAtSsq (slot : Slot)
  /-- LATCH_OPEN_AT_SSQ (R68). -/
  | latchOpenAtSsq (slot : Slot)
  /-- LATCH_CLOSED_AT_SSQ (R52). -/
  | latchClosedAtSsq (slot : Slot)
  /-- PRESENCE_CHANGE_AT_QAC (R94). -/
  | presenceChangeAtQac (slot : Slot)
  /-- DISTURBANCE_ORDER (R60). -/
  | disturbanceOrder (slot : Slot)
  /-- SET_INPUTS (R34): positions of the interval and of the two polarities. -/
  | setInputs (interval presencePolarity latchPolarity : Nat)
  /-- POWER_ON (R37). -/
  | powerOn (slot : Nat)
  /-- SPIN_UP_START_REPORT (R38). -/
  | spinUpStartReport (slot : Slot)
  /-- SPIN_UP_TIMER_EXPIRY (R39). -/
  | spinUpTimerExpiry (slot : Slot)
  /-- SPIN_UP_EXPIRY (R39). -/
  | spinUpExpiry (slot : Slot)
  /-- POWER_OFF (R41). -/
  | powerOff (slot : Nat)
  /-- POWER_OFF_ORDER (R42). -/
  | powerOffOrder (slot : Slot)
  /-- SPIN_DOWN_ORDER (R44). -/
  | spinDownOrder (slot : Slot)
  /-- RELEASE_ORDER (R46). -/
  | releaseOrder (slot : Slot)
  /-- SPIN_DOWN_TIMER_EXPIRY (R45). -/
  | spinDownTimerExpiry (slot : Slot)
  /-- SPIN_DOWN_EXPIRY (R73). -/
  | spinDownExpiry (slot : Slot)
  /-- SET_POWER (R47). -/
  | setPower (budget upTime downTime : Nat)
  /-- SET_SERIAL (R53). -/
  | setSerial (slot : Nat) (serial : List Byte)
  /-- START (R55). -/
  | start (slot recipeId : Nat)
  /-- START_FETCH (R134): the start fetch reaches RST. -/
  | startFetch
  /-- START_FETCH_ANSWER (R57): its answer reaches SSQ. -/
  | startFetchAnswer
  /-- CAPTURE_REPORT (R111). -/
  | captureReport (slot : Slot)
  /-- ADVANCE (R61). -/
  | advance (slot : Nat)
  /-- STAGE_FETCH (R134). -/
  | stageFetch
  /-- STAGE_FETCH_ANSWER (R62). -/
  | stageFetchAnswer
  /-- MEASURE (R63). -/
  | measure (slot measureId value : Nat)
  /-- FINISH (R64). -/
  | finish (slot : Nat)
  /-- LIMITS_FETCH (R134). -/
  | limitsFetch
  /-- LIMITS_FETCH_ANSWER (R65). -/
  | limitsFetchAnswer
  /-- ABORT (R66). -/
  | abort (slot reason : Nat)
  /-- READ_SLOT (R75). -/
  | readSlot (link : Link) (slot : Nat)
  /-- OVERTEMP_EVENT (R69). -/
  | overtempEvent (slot : Slot)
  /-- ACCESS_REQUEST (R81). -/
  | accessRequest (slot action : Nat)
  /-- ASK_ORDER (R59). -/
  | askOrder (slot : Slot)
  /-- QUIET (R83). -/
  | quiet (slot : Nat)
  /-- SLOT_CHANGE_REPORT (R84). -/
  | slotChangeReport (slot : Slot)
  /-- QUIET_TIMEOUT_EXPIRY (R86). -/
  | quietTimeoutExpiry (record : Fin 2)
  /-- HOLD_LIMIT_EXPIRY (R88). -/
  | holdLimitExpiry (record : Fin 2)
  /-- ACCESS_CANCEL (R87). -/
  | accessCancel (record : Nat)
  /-- ACCESS_DONE (R89). -/
  | accessDone (record outcome : Nat)
  /-- RELEASE_QUIET_ORDER (R59). -/
  | releaseQuietOrder (slot : Slot)
  /-- SET_QUIET (R96). -/
  | setQuiet (mode timeout limit : Nat)
  /-- SCAN_START (R98). -/
  | scanStart
  /-- SENSOR_READING (R99): the reply that came within 8 ms of the query, if any. -/
  | sensorReading (reply : Option SensorReply)
  /-- SET_SCAN (R112). -/
  | setScan (period weight : Nat)
  /-- SET_PROFILE (R107). -/
  | setProfile (profile : Nat) (base : Int) (width : Nat) (factors : List Nat)
  /-- SET_OFFSET (R104). -/
  | setOffset (slot : Nat) (offset : Int)
  /-- STAGE_HEADER (R117). -/
  | stageHeader (recipeId revision : Nat) (tag : List Byte) (minCredit : Nat)
  /-- STAGE_STEP (R118). -/
  | stageStep (index kind sensitive suspendable : Nat) (target : OptArg) (mode profile : Nat) (limit maxTemp : OptArg)
  /-- STAGE_LIMITS (R119). -/
  | stageLimits (measureId a b r required : Nat)
  /-- PROGRAM (R121). -/
  | program (block : Nat)
  /-- PROGRAM_COMPLETION (R122): whether every cell verified. -/
  | programCompletion (success : Bool)
  /-- ERASE (R123). -/
  | erase (block : Nat)
  /-- ERASE_COMPLETION (R123): whether every cell erased. -/
  | eraseCompletion (success : Bool)
  /-- BLANK_CHECK (R125). -/
  | blankCheck (block : Nat)
  /-- BLANK_CHECK_COMPLETION (R125): whether every cell reads erased. -/
  | blankCheckCompletion (erased : Bool)
  /-- LOCK (R125). -/
  | lock (block : Nat)
  /-- LOCK_COMPLETION (R125). -/
  | lockCompletion
  /-- LOCK_OVERRIDE (R116). -/
  | lockOverride
  /-- STORE_CLEAR (R124). -/
  | storeClear
  /-- CLEAR_BLOCK_ERASURE (R124): the CLEAR begins its next block. -/
  | clearBlockErasure
  /-- CLEAR_BLOCK_COMPLETION (R124): whether the block's cells erased. -/
  | clearBlockCompletion (success : Bool)
  /-- SUSPEND (R127). -/
  | suspend
  /-- SUSPENSION_EVENT (R127). -/
  | suspensionEvent
  /-- RESUME (R129). -/
  | resume
  /-- STOP (R130). -/
  | stop
  /-- CLEAR_STORE_STATUS (R126). -/
  | clearStoreStatus
  /-- SET_STORE_MODE (R115). -/
  | setStoreMode (mode : Nat)
  /-- SET_FETCH_PRIORITY (R133). -/
  | setFetchPriority (priority : Nat)
  /-- READ_RECIPE (R135). -/
  | readRecipe (block part : Nat)
  /-- READ_STORE (R136). -/
  | readStore
  /-- PATCH_EDIT (R138). -/
  | patchEdit
  /-- PATCH_SET (R139). -/
  | patchSet (channel enable block kind selector field value : Nat)
  /-- PATCH_APPLY (R140). -/
  | patchApply
  /-- PATCH_WITHDRAW (R143). -/
  | patchWithdraw
  /-- OPEN_TOTE (R166). -/
  | openTote (label bin capacity : Nat)
  /-- CLOSE_TOTE (R167). -/
  | closeTote (record : Nat)
  /-- RELEASE_TOTE (R168). -/
  | releaseTote (record : Nat)
  /-- READ_TOTE (R169). -/
  | readTote (link : Link) (record position : Nat)
  /-- RACK_RESET (R13). -/
  | rackReset
  /-- RECEIVED_BYTE (R1): a byte arrives at a link's receiver. -/
  | receivedByte (link : Link) (byte : Byte)
  deriving DecidableEq, Repr

end Sys2Proof
end

