-- ==== Sys2Proof/Decode.lean ====
section
/-! DEFINITION. spec/opcode_table.json gives no bits to any of its rows: the part takes commands, it decodes no
instruction words. The reading of a request FRAME into a command is `decodeRequest` (Machine/Operands.lean), over the
encoding of R6. -/

namespace Sys2Proof

/-- The command a table word spells: none, for no row of the table has bits. -/
def decodeTableWord (_nbits _w : Nat) : Option Instr := none

end Sys2Proof
end

