-- ==== Sys2Proof/Config.lean ====
section
/-! DEFINITION. What is fixed for the part (the numbers the rules give) and the one value its manual leaves open. -/

namespace Sys2Proof.Config

/-- The greatest rack time seconds, 2^32 - 1 (R18). -/
abbrev maxSeconds : Nat := 4294967295

/-- The greatest 32-bit value; the total credit saturates there (R58). -/
abbrev max32 : Nat := 4294967295

/-- Credit units in one reference-minute (Conventions, "Burn-in credit"). -/
abbrev unitsPerMinute : Nat := 1920

/-- Milliseconds of the reference oscillator between two accounting ticks (R22). -/
abbrev tickMillis : Nat := 1000

/-- The frame timeout in milliseconds (R1). -/
abbrev frameTimeout : Nat := 20

/-- The greatest payload length of a frame (Table 1-1). -/
abbrev maxPayload : Nat := 250

/-- Response frames an output list holds (R4). -/
abbrev outputDepth : Nat := 4

/-- The request start marker (Table 1-1). -/
abbrev requestMarker : Byte := 0xC3#8

/-- The response start marker (Table 1-2). -/
abbrev responseMarker : Byte := 0xD4#8

/-- The legal temperature range, quarter-degrees (Conventions, "Temperatures"). -/
abbrev minTemp : Int := -160
abbrev maxTemp : Int := 500

/-- FREE VALUE (log entry 3). The value bytes a READ RECIPE result sends for an ABSENT optional stage field: R6 says the
bytes are always sent and ignored, and no rule says what they hold. `seed` is a counter of the model, `place` tells the
fields of one result apart. Nothing can be proved of it. -/
opaque ignoredValue : (seed place : Nat) → BitVec 16

/-- FREE VALUE (log entry 30). The bytes after the characters of a serial shorter than 20 in a READ TOTE result (Table 1-10,
bytes 9 to 28): no rule says what they hold. `entry` is what the manual fixes of the position entry, `place` counts the bytes.
Nothing can be proved of it. -/
opaque unusedSerialByte : (entry : List (BitVec 8)) → (place : Nat) → BitVec 8

end Sys2Proof.Config
end

