-- ==== Sys2Proof/Machine/State.lean ====
section
/-! DEFINITION. The state of the part as plain data, block by block (Table 0-1), the events on their way between the blocks,
the waiting commands, and the state right after reset. -/

namespace Sys2Proof.Machine

/-! ### Why a step can stop -/

/-- Faults: there are none. The part has no state in which it stops (what the manual refuses, it refuses with a response
code), so no meaning answers with a fault. -/
inductive Fault where
  deriving DecidableEq, Repr

/-- Refusals. -/
inductive Refusal where
  /-- Raised by an arm of `exec` whose command has no meaning yet. Safe: the model then says nothing of that command. -/
  | notModelled (mnemonic : String)
  deriving DecidableEq, Repr

/-! ### Rack time -/

/-- A rack time, seconds and milliseconds (R18). -/
structure RackTime where
  seconds : Nat
  millis : Nat
  deriving DecidableEq, Repr

/-! ### Links (Section 1) -/

/-- The response codes (Table 1-3). -/
inductive RespCode where
  | done | accepted | wrongState | notPermitted | range | locked | inUse | busy | full | tooLate | duplicate
  | storeError | modeProtected | conflict | invalidRecipe | badFrame | overrun | unknown
  deriving DecidableEq, Repr

/-- The notice kinds (Table 1-6), but for NONE, which is never posted. -/
inductive NoticeKind where
  | loaded | spunUp | stageDue | deadline | quietAsk | resume | disturbed | overtemp | sensorStale | driveLost
  | grant | accessEnded | holdOverrun | unloadReady | toteFull | dispatchStall | storeDone | storeFailed
  deriving DecidableEq, Repr

/-- The receiver of a link (R1). In BODY it holds the length and the bytes received after it: request code, payload, CRC. -/
inductive Receiver where
  | hunt
  | header
  | body (length : Nat) (received : List Byte)
  deriving DecidableEq, Repr

/-- The held request of a link (R3). -/
inductive Held where
  /-- Taken and passed to its owning block, not yet served there. -/
  | passed (request : Instr)
  /-- Being served: START, ADVANCE or FINISH waiting on its fetch, POWER OFF waiting on its outcome. -/
  | serving (request : Instr)
  /-- Served; its response frame waits for room in the output list (R4). -/
  | answered (frame : List Byte)
  deriving DecidableEq, Repr

/-- What one link interface owns (Section 1, R14). -/
structure LinkState where
  receiver : Receiver
  /-- The oscillator count at the last byte taken, for the frame timeout of R1. -/
  lastByteAt : Nat
  held : Option Held
  /-- The output list: whole response frames, first to be sent first. -/
  output : List (List Byte)
  /-- The pending-notice set, each pair at most once. -/
  notices : List (NoticeKind × Nat)
  /-- The notice level of each kind, kind code 1 at place 0; 0 for a kind the link does not record. -/
  levels : Vector Nat 18
  mask : Nat
  /-- The attention line, true while asserted. -/
  attention : Bool
  deriving DecidableEq, Repr

/-! ### Rack clock (Section 2) -/

/-- An armed entry of the deadline watch list, and what a deadline expiry carries (R25). -/
structure Deadline where
  time : RackTime
  stage : Nat
  deriving DecidableEq, Repr

/-- What RCK owns, and the count of its reference oscillator. -/
structure Rck where
  time : RackTime
  unset : Bool
  tickPhase : Nat
  watch : Vector (Option Deadline) 24
  /-- Milliseconds of the reference oscillator since the reset effect (log entry 1). -/
  osc : Nat
  deriving DecidableEq, Repr

/-! ### Slot input filter and power sequencer (Section 3) -/

/-- One switch input: its accepted level (true for PRESENT or CLOSED) and its run (R31). -/
structure InputFilter where
  accepted : Bool
  run : Nat
  deriving DecidableEq, Repr

/-- The polarity of an input group (R30). -/
inductive Polarity where
  | activeLow
  | activeHigh
  deriving DecidableEq, Repr

/-- What SIF owns. -/
structure Sif where
  presence : Vector InputFilter 24
  latch : Vector InputFilter 24
  /-- The sample interval in milliseconds: 1, 2, 5 or 10. -/
  interval : Nat
  presencePolarity : Polarity
  latchPolarity : Polarity
  startUpCount : Nat
  /-- The oscillator count at the last sample (R30, R34). -/
  lastSampleAt : Nat
  deriving DecidableEq, Repr

/-- An accepted change on its way to SSQ or QAC (R32). -/
structure InputChange where
  level : Bool
  stamp : RackTime
  startUp : Bool
  deriving DecidableEq, Repr

/-- Power phases (3.4). -/
inductive Phase where
  | off | queued | spinUp | on | spinDown
  deriving DecidableEq, Repr

/-- What PSQ holds for one slot: its phase, its power output and its power timer's expiry (oscillator count). -/
structure PowerSlot where
  phase : Phase
  output : Bool
  timer : Option Nat
  deriving DecidableEq, Repr

/-- What PSQ owns. Times in seconds. -/
structure Psq where
  slots : Vector PowerSlot 24
  queue : List Slot
  lanes : Nat
  budget : Nat
  upTime : Nat
  downTime : Nat
  deriving DecidableEq, Repr

/-- Orders SSQ gives PSQ that are on their way; a power-off order says whether a POWER OFF request waits on it. -/
inductive PowerOrder where
  | powerOff (forRequest : Bool)
  | spinDown
  | release
  deriving DecidableEq, Repr

/-- Reports PSQ sends SSQ. -/
inductive PowerReport where
  | started | spunUp | spunDown
  deriving DecidableEq, Repr

/-! ### Slot table (Section 4) -/

inductive SlotState where
  | empty | loaded | spinUpWait | spinUp | ready | running | complete | spinDown | dispatchWait | unload
  deriving DecidableEq, Repr

inductive StageKind where
  | soak | exercise | check
  deriving DecidableEq, Repr

inductive CreditMode where
  | always | activeOnly
  deriving DecidableEq, Repr

inductive StagePhase where
  | active | due
  deriving DecidableEq, Repr

inductive QuietState where
  | normal | asked | quiet
  deriving DecidableEq, Repr

inductive SpinDownExit where
  | loaded | dispatch
  deriving DecidableEq, Repr

/-- The grade bins, best first. -/
inductive Bin where
  | a | b | rework | scrap
  deriving DecidableEq, Repr

/-- Fault kinds (Table 4-3). -/
inductive FaultKind where
  | latchOpen | overtemp | testAbort | driveFail
  deriving DecidableEq, Repr

/-- The reason of a grade, with its argument (R156). -/
inductive Reason where
  | none
  | fault (kind : FaultKind)
  | disturbed
  | creditShort
  | overtime
  | measure (id : MeasureId)
  | missing (id : MeasureId)
  deriving DecidableEq, Repr

/-- The recipe reference of a slot record. -/
structure RecipeRef where
  block : BlockNo
  id : Nat
  revision : Nat
  stages : Nat
  deriving DecidableEq, Repr

/-- The stage context of a slot record; the credit target in units (R56). -/
structure StageContext where
  kind : StageKind
  sensitive : Bool
  suspendable : Bool
  target : Option Nat
  mode : CreditMode
  profile : Fin 2
  deadline : Option RackTime
  maxTemp : Option Int
  deriving DecidableEq, Repr

/-- One entry of the stage marks list. -/
structure Marks where
  overtime : Bool
  disturbed : Bool
  deriving DecidableEq, Repr

/-- A slot record (Table 4-1). -/
structure SlotRecord where
  state : SlotState
  /-- The presence field, true for PRESENT. -/
  present : Bool
  /-- The latch field, true for CLOSED. -/
  closed : Bool
  ungranted : Bool
  serial : Option (List Byte)
  recipe : Option RecipeRef
  stage : Nat
  context : Option StageContext
  phase : StagePhase
  credit : Nat
  total : Nat
  quiet : QuietState
  marks : List Marks
  measures : Vector (Option Nat) 8
  grade : Option (Bin × Reason)
  fault : Option (FaultKind × RackTime)
  exit : SpinDownExit
  patchGen : Option Nat
  loadedAt : Option RackTime
  startedAt : Option RackTime
  finishedAt : Option RackTime
  deriving DecidableEq, Repr

/-! ### Quiet access controller (Section 5) -/

inductive ZoneMode where
  | near | shelf
  deriving DecidableEq, Repr

inductive Action where
  | load | unload
  deriving DecidableEq, Repr

/-- What an access record holds in PENDING and in GRANTED. The timer is its expiry's oscillator count. -/
structure AccessUse where
  target : Slot
  action : Action
  zone : List Slot
  start : RackTime
  timer : Option Nat
  deriving DecidableEq, Repr

/-- An access record; in GRANTED also the presence at grant and the overrun flag. -/
inductive AccessRecord where
  | free
  | pending (use : AccessUse)
  | granted (use : AccessUse) (presentAtGrant : Bool) (overrun : Bool)
  deriving DecidableEq, Repr

/-- What QAC owns. Times in seconds. -/
structure Qac where
  records : Vector AccessRecord 2
  holds : Vector Nat 24
  mode : ZoneMode
  timeout : Nat
  limit : Nat
  deriving DecidableEq, Repr

/-! ### Thermal accounting unit (Section 6) -/

/-- A slot's temperature context. -/
structure TempContext where
  filtered : Option Int
  failures : Nat
  hot : Nat
  stale : Bool
  deriving DecidableEq, Repr

/-- A thermal profile (6.5). -/
structure Profile where
  base : Int
  width : Nat
  factors : Vector Nat 16
  deriving DecidableEq, Repr

/-- What TAU owns. -/
structure Tau where
  contexts : Vector TempContext 24
  profiles : Vector Profile 2
  offsets : Vector Int 24
  period : Nat
  weight : Nat
  /-- The oscillator count at the start of the last scan. -/
  scanStartAt : Nat
  /-- The scan in progress: the next slot to be read. -/
  scanNext : Option Slot
  deriving DecidableEq, Repr

/-! ### Recipe store (Section 7) -/

inductive BlockState where
  | blank | written | invalid
  deriving DecidableEq, Repr

/-- A stage entry (Table 7-2); the credit target in reference-minutes, the deadline limit in minutes. -/
structure StageEntry where
  kind : StageKind
  sensitive : Bool
  suspendable : Bool
  target : Option Nat
  mode : CreditMode
  profile : Fin 2
  limit : Option Nat
  maxTemp : Option Int
  deriving DecidableEq, Repr

/-- A limits entry (Table 7-3). -/
structure LimitsEntry where
  a : Nat
  b : Nat
  r : Nat
  required : Bool
  deriving DecidableEq, Repr

/-- The header of a recipe. -/
structure Header where
  id : Nat
  revision : Nat
  tag : List Byte
  minCredit : Nat
  deriving DecidableEq, Repr

/-- A recipe record (Table 7-1). -/
structure Recipe where
  header : Header
  stages : List StageEntry
  limits : Vector (Option LimitsEntry) 8
  deriving DecidableEq, Repr

/-- A recipe block: nonvolatile state, lock and record, and its volatile reference count. -/
structure RecipeBlock where
  state : BlockState
  locked : Bool
  record : Option Recipe
  refs : Nat
  deriving DecidableEq, Repr

inductive StoreMode where
  | engineering | production
  deriving DecidableEq, Repr

/-- The staging buffer (7.3). -/
structure Staging where
  header : Option Header
  steps : Vector (Option StageEntry) 16
  limits : Vector (Option LimitsEntry) 8
  deriving DecidableEq, Repr

/-- The work of a running operation (R120). A CLEAR holds the block whose erasure is under way, the block whose erasure
comes next, and whether a block has failed. -/
inductive Work where
  | program (block : BlockNo) (copy : Recipe)
  | erase (block : BlockNo)
  | blankCheck (block : BlockNo) (prior : BlockState)
  | lock (block : BlockNo)
  | clear (target : Option BlockNo) (next : Nat) (failed : Bool)
  deriving DecidableEq, Repr

/-- The running operation: its work, the nested flag and the suspension request. -/
structure Running where
  work : Work
  nested : Bool
  askedExplicit : Bool
  askedFetch : Bool
  deriving DecidableEq, Repr

/-- The suspended operation. -/
inductive Suspended where
  | erase (block : BlockNo)
  | program (block : BlockNo) (copy : Recipe)
  deriving DecidableEq, Repr

inductive StoreErrorKind where
  | programFailed | eraseFailed | checkFailed
  deriving DecidableEq, Repr

/-- What RST owns. -/
structure Rst where
  blocks : Vector RecipeBlock 32
  mode : StoreMode
  lockOverride : Bool
  /-- The fetch priority, true for ON. -/
  priority : Bool
  staging : Staging
  running : Option Running
  suspended : Option Suspended
  error : Option (StoreErrorKind × BlockNo)
  deriving DecidableEq, Repr

/-- A recipe fetch for a slot (7.7). -/
inductive Fetch where
  | start (slot : Slot) (id : Nat)
  | stage (slot : Slot) (block : BlockNo) (index : Nat)
  | limits (slot : Slot) (block : BlockNo)
  deriving DecidableEq, Repr

/-- What RST answers a fetch with. -/
inductive FetchResult where
  | busy
  | range
  | start (block : BlockNo) (revision stages : Nat) (entry : StageEntry)
  | stage (entry : StageEntry)
  | limits (table : Vector (Option LimitsEntry) 8) (minCredit : Nat) (generation : Nat)
  /-- The block no longer holds what the fetch asks for (log entry 15). -/
  | gone
  deriving DecidableEq, Repr

/-- Where the one fetch stands (R131): nowhere, on its way to RST, waiting there on a suspension event, or answered and on
its way back to SSQ. -/
inductive FetchPlace where
  | idle
  | sent (fetch : Fetch)
  | waiting (fetch : Fetch)
  | answered (fetch : Fetch) (result : FetchResult)
  deriving DecidableEq, Repr

/-! ### Patch unit (Section 8) -/

inductive UnitState where
  | off | edit | active
  deriving DecidableEq, Repr

inductive Threshold where
  | a | b | r
  deriving DecidableEq, Repr

inductive StageField where
  | creditTarget | deadline | maxTemp
  deriving DecidableEq, Repr

/-- The target of a patch channel. -/
inductive PatchTarget where
  | limit (id : MeasureId) (threshold : Threshold)
  | stage (index : Fin 16) (field : StageField)
  | minCredit
  deriving DecidableEq, Repr

/-- A patch channel; the value is its 32 bits read unsigned. -/
structure Channel where
  enable : Bool
  block : BlockNo
  target : PatchTarget
  value : Nat
  deriving DecidableEq, Repr

/-- What PCU owns. -/
structure Pcu where
  unit : UnitState
  channels : Vector Channel 4
  generation : Nat
  deriving DecidableEq, Repr

/-! ### Tote table (Section 10) -/

/-- A filled entry (Table 10-2). -/
structure FilledEntry where
  serial : Option (List Byte)
  slot : Slot
  recipeId : Nat
  revision : Nat
  patchGen : Nat
  bin : Bin
  reason : Reason
  /-- Total credit in whole reference-minutes. -/
  credit : Nat
  finishedAt : Option RackTime
  placedAt : RackTime
  deriving DecidableEq, Repr

inductive Position where
  | empty
  | reserved (slot : Slot)
  | filled (entry : FilledEntry)
  deriving DecidableEq, Repr

/-- What a tote record holds in OPEN and CLOSED. Position p is at place p - 1; the capacity is the length of the list. -/
structure ToteBody where
  label : Nat
  bin : Bin
  positions : List Position
  deriving DecidableEq, Repr

/-- A tote record (Table 10-1). -/
inductive Tote where
  | free
  | opened (body : ToteBody)
  | closed (body : ToteBody)
  deriving DecidableEq, Repr

/-- What TTB owns: the records, the four wait queues (A, B, REWORK, SCRAP) and the dispatch notes (id, revision). -/
structure Ttb where
  totes : Vector Tote 8
  queues : Vector (List Slot) 4
  notes : Vector (Option (Nat × Nat)) 24
  deriving DecidableEq, Repr

/-! ### Events on their way -/

/-- For one slot, what one block has delivered and the other has not yet served: SIF's accepted changes, SSQ's orders to
PSQ and PSQ's reports to SSQ (each in the order sent), RCK's deadline expiries, and how many of each of the events that
carry nothing but the slot. -/
structure Mail where
  presenceToSsq : List InputChange
  latchToSsq : List InputChange
  presenceToQac : List InputChange
  latchToQac : List InputChange
  orders : List PowerOrder
  reports : List PowerReport
  deadlines : List Deadline
  credits : Nat
  overtemps : Nat
  captures : Nat
  changes : Nat
  asks : Nat
  releases : Nat
  disturbances : Nat
  deriving DecidableEq, Repr

/-! ### The whole state -/

/-- The state of the part. -/
structure State where
  testLink : LinkState
  handlerLink : LinkState
  lineLink : LinkState
  rck : Rck
  sif : Sif
  psq : Psq
  slots : Vector SlotRecord 24
  qac : Qac
  tau : Tau
  rst : Rst
  pcu : Pcu
  ttb : Ttb
  /-- The recipe fetch of the test link's request (Section 7). -/
  fetch : FetchPlace
  mail : Vector Mail 24
  /-- Accounting ticks RCK has delivered and TAU has not yet served (R22). -/
  ticks : Nat
  /-- A RACK RESET response has been sent in full, so the reset effect is due (R13, log entry 6). -/
  resetDue : Bool
  /-- MODEL: the counter the free value of log entry 3 is drawn with. -/
  freeSeed : Nat
  /-- MODEL: the commands that wait, first in, first out. -/
  pending : List Instr
  deriving DecidableEq, Repr

/-! ### Notice kinds and their tables -/

/-- The place of a kind in the level table: its code in Table 1-6 less one. -/
def NoticeKind.place : NoticeKind → Fin 18
  | .loaded => 0 | .spunUp => 1 | .stageDue => 2 | .deadline => 3 | .quietAsk => 4 | .resume => 5 | .disturbed => 6
  | .overtemp => 7 | .sensorStale => 8 | .driveLost => 9 | .grant => 10 | .accessEnded => 11 | .holdOverrun => 12
  | .unloadReady => 13 | .toteFull => 14 | .dispatchStall => 15 | .storeDone => 16 | .storeFailed => 17

/-- The code of a kind in Table 1-6. -/
def NoticeKind.code (k : NoticeKind) : Nat := k.place.val + 1

/-- All kinds, by code. -/
def allKinds : List NoticeKind :=
  [.loaded, .spunUp, .stageDue, .deadline, .quietAsk, .resume, .disturbed, .overtemp, .sensorStale, .driveLost,
   .grant, .accessEnded, .holdOverrun, .unloadReady, .toteFull, .dispatchStall, .storeDone, .storeFailed]

/-- The links that record a kind (Table 1-6, column "Links"). -/
def NoticeKind.recordedOn : NoticeKind → Link → Bool
  | .loaded, .test | .spunUp, .test | .stageDue, .test | .deadline, .test | .quietAsk, .test | .resume, .test
  | .disturbed, .test | .overtemp, .test | .overtemp, .line | .sensorStale, .test | .sensorStale, .line
  | .driveLost, _ | .grant, .handler | .accessEnded, .handler | .holdOverrun, .handler | .holdOverrun, .test
  | .unloadReady, .handler | .toteFull, .handler | .toteFull, .line | .dispatchStall, .line | .storeDone, .line
  | .storeFailed, .line => true
  | _, _ => false

/-- The default level of a kind (Table 1-6). -/
def NoticeKind.defaultLevel : NoticeKind → Nat
  | .loaded => 4 | .spunUp => 4 | .stageDue => 6 | .deadline => 7 | .quietAsk => 12 | .resume => 11 | .disturbed => 9
  | .overtemp => 13 | .sensorStale => 8 | .driveLost => 14 | .grant => 12 | .accessEnded => 10 | .holdOverrun => 9
  | .unloadReady => 6 | .toteFull => 7 | .dispatchStall => 5 | .storeDone => 6 | .storeFailed => 10

/-- The levels a link holds after reset: the default level of each kind it records (R14). -/
def defaultLevels (l : Link) : Vector Nat 18 :=
  tof fun p => match allKinds[p.val]? with
    | some k => if k.recordedOn l then k.defaultLevel else 0
    | none => 0

/-! ### Reset values -/

/-- A link interface after reset (R14). -/
def LinkState.reset (l : Link) : LinkState :=
  { receiver := .hunt, lastByteAt := 0, held := none, output := [], notices := [], levels := defaultLevels l,
    mask := 0, attention := false }

/-- RCK after reset (R29). -/
def Rck.reset : Rck :=
  { time := ⟨0, 0⟩, unset := true, tickPhase := 0, watch := Vector.replicate 24 none, osc := 0 }

/-- SIF after reset (R36). -/
def Sif.reset : Sif :=
  { presence := Vector.replicate 24 ⟨false, 0⟩, latch := Vector.replicate 24 ⟨false, 0⟩, interval := 2,
    presencePolarity := .activeLow, latchPolarity := .activeLow, startUpCount := 0, lastSampleAt := 0 }

/-- PSQ after reset (R48). -/
def Psq.reset : Psq :=
  { slots := Vector.replicate 24 ⟨.off, false, none⟩, queue := [], lanes := 0, budget := 4, upTime := 12, downTime := 8 }

/-- A slot record after reset (R76). -/
def SlotRecord.reset : SlotRecord :=
  { state := .empty, present := false, closed := false, ungranted := false, serial := none, recipe := none, stage := 0,
    context := none, phase := .active, credit := 0, total := 0, quiet := .normal, marks := [],
    measures := Vector.replicate 8 none, grade := none, fault := none, exit := .loaded, patchGen := none,
    loadedAt := none, startedAt := none, finishedAt := none }

/-- QAC after reset (R97). -/
def Qac.reset : Qac :=
  { records := Vector.replicate 2 .free, holds := Vector.replicate 24 0, mode := .near, timeout := 10, limit := 30 }

/-- The default thermal profile (Table 6-2). -/
def Profile.default : Profile :=
  { base := 160, width := 10, factors := ⟨#[11, 13, 16, 19, 23, 27, 32, 38, 45, 54, 64, 76, 91, 108, 128, 152], rfl⟩ }

/-- TAU after reset (R113). -/
def Tau.reset : Tau :=
  { contexts := Vector.replicate 24 ⟨none, 0, 0, false⟩, profiles := Vector.replicate 2 Profile.default,
    offsets := Vector.replicate 24 0, period := 2, weight := 2, scanStartAt := 0, scanNext := none }

/-- The empty staging buffer. -/
def Staging.empty : Staging :=
  { header := none, steps := Vector.replicate 16 none, limits := Vector.replicate 8 none }

/-- RST after a reset that finds the given nonvolatile cells (R137): every reference count is 0. -/
def Rst.afterReset (cells : Vector RecipeBlock 32) (mode : StoreMode) : Rst :=
  { blocks := tof fun b => { tget cells b with refs := 0 }, mode := mode, lockOverride := false, priority := true,
    staging := .empty, running := none, suspended := none, error := none }

/-- The recipe blocks of a part as it leaves the factory (Section 7). -/
def factoryCells : Vector RecipeBlock 32 := Vector.replicate 32 ⟨.blank, false, none, 0⟩

/-- PCU after reset (R147). -/
def Pcu.reset : Pcu :=
  { unit := .off, channels := Vector.replicate 4 ⟨false, 0, .minCredit, 0⟩, generation := 0 }

/-- TTB after reset (R170). -/
def Ttb.reset : Ttb :=
  { totes := Vector.replicate 8 .free, queues := Vector.replicate 4 [], notes := Vector.replicate 24 none }

/-- No event on its way for a slot. -/
def Mail.empty : Mail :=
  { presenceToSsq := [], latchToSsq := [], presenceToQac := [], latchToQac := [], orders := [], reports := [], deadlines := [], credits := 0,
    overtemps := 0, captures := 0, changes := 0, asks := 0, releases := 0, disturbances := 0 }

/-- The state a reset effect leaves, given the nonvolatile cells it finds, the free-value counter and the queue. -/
def State.afterReset (cells : Vector RecipeBlock 32) (mode : StoreMode) (seed : Nat) (pending : List Instr) : State :=
  { testLink := .reset .test, handlerLink := .reset .handler, lineLink := .reset .line, rck := .reset, sif := .reset,
    psq := .reset, slots := Vector.replicate 24 .reset, qac := .reset, tau := .reset, rst := .afterReset cells mode,
    pcu := .reset, ttb := .reset, fetch := .idle, mail := Vector.replicate 24 .empty, ticks := 0, resetDue := false,
    freeSeed := seed, pending := pending }

/-- The part right after its first reset, at power-on from the factory: every block at its reset values, the nonvolatile
cells as they left the factory (log entry 8), no command waiting. -/
def State.reset : State := State.afterReset factoryCells .engineering 0 []

end Sys2Proof.Machine
end

