-- ==== Sys2Proof/Machine/Operands.lean ====
section
/-! DEFINITION. The argument forms: byte order and widths (R6), the reading of a frame's payload into a command, the ranges
(R7), the request codes and permissions (Table 1-4), and the value codes of results (Table 1-9). -/

namespace Sys2Proof.Machine

/-! ### Bytes -/

/-- A number as one byte. -/
def byteOf (n : Nat) : Byte := BitVec.ofNat 8 n

/-- A flag as one byte, 0 or 1. -/
def flagByte (b : Bool) : Byte := if b then 1#8 else 0#8

/-- Two bytes, most significant first (R6). -/
def be16 (n : Nat) : List Byte := [byteOf (n / 256), byteOf n]

/-- Four bytes, most significant first (R6). -/
def be32 (n : Nat) : List Byte := [byteOf (n / 16777216), byteOf (n / 65536), byteOf (n / 256), byteOf n]

/-- The number of a byte sequence, most significant byte first (R6). -/
def beNat (bs : List Byte) : Nat := bs.foldl (fun acc b => acc * 256 + b.toNat) 0

/-- A number of `w` bits read in two's complement (R6). -/
def signedOf (w n : Nat) : Int := if n < 2 ^ (w - 1) then n else (n : Int) - (2 ^ w : Nat)

/-- A signed number written in `w` bits, two's complement (R6). -/
def twosOf (w : Nat) (z : Int) : Nat := (z % ((2 ^ w : Nat) : Int)).toNat

/-- A character string: its count byte and its characters (R6). -/
def stringBytes (s : List Byte) : List Byte := byteOf s.length :: s

/-! ### Ranges (R7) -/

def slotOf? (n : Nat) : Option Slot := if h : n < 24 then some ⟨n, h⟩ else none

def blockOf? (n : Nat) : Option BlockNo := if h : n < 32 then some ⟨n, h⟩ else none

def measureOf? (n : Nat) : Option MeasureId := if h : n < 8 then some ⟨n, h⟩ else none

def toteOf? (n : Nat) : Option ToteNo := if h : n < 8 then some ⟨n, h⟩ else none

def recordOf? (n : Nat) : Option (Fin 2) := if h : n < 2 then some ⟨n, h⟩ else none

def channelOf? (n : Nat) : Option (Fin 4) := if h : n < 4 then some ⟨n, h⟩ else none

def stepOf? (n : Nat) : Option (Fin 16) := if h : n < 16 then some ⟨n, h⟩ else none

/-- A yes/no argument, 0 or 1. -/
def boolOf? : Nat → Option Bool
  | 0 => some false
  | 1 => some true
  | _ => none

/-- A value within an inclusive range. -/
def natIn? (lo hi n : Nat) : Option Nat := if lo ≤ n ∧ n ≤ hi then some n else none

/-- A signed value within an inclusive range. -/
def intIn? (lo hi z : Int) : Option Int := if lo ≤ z ∧ z ≤ hi then some z else none

/-- A printable character, 20 to 7E hexadecimal (R7). -/
def printable (b : Byte) : Bool := decide (0x20 ≤ b.toNat ∧ b.toNat ≤ 0x7E)

/-- A string of `lo` to `hi` printable characters (R7). -/
def stringIn? (lo hi : Nat) (s : List Byte) : Option (List Byte) :=
  if lo ≤ s.length ∧ s.length ≤ hi ∧ s.all printable then some s else none

/-- An optional argument (R6): absent, present with a value its range admits, or out of range (`none`). A presence byte
above 1 is out of range, and the value is ignored when the presence byte is 0. -/
def optIn? (range : Int → Option α) (a : OptArg) : Option (Option α) :=
  match a.presence with
  | 0 => some none
  | 1 => (range a.value).map some
  | _ => none

def minutesIn? (hi : Nat) (z : Int) : Option Nat := if 1 ≤ z ∧ z ≤ hi then some z.toNat else none

def tempIn? (z : Int) : Option Int := intIn? Config.minTemp Config.maxTemp z

/-- The values of a choice argument, by position (R6). -/
def intervalOf? : Nat → Option Nat
  | 0 => some 1
  | 1 => some 2
  | 2 => some 5
  | 3 => some 10
  | _ => none

def polarityOf? : Nat → Option Polarity
  | 0 => some .activeLow
  | 1 => some .activeHigh
  | _ => none

def kindOf? : Nat → Option StageKind
  | 0 => some .soak
  | 1 => some .exercise
  | 2 => some .check
  | _ => none

def creditModeOf? : Nat → Option CreditMode
  | 0 => some .always
  | 1 => some .activeOnly
  | _ => none

def profileOf? (n : Nat) : Option (Fin 2) := if h : n < 2 then some ⟨n, h⟩ else none

def abortKindOf? : Nat → Option FaultKind
  | 0 => some .testAbort
  | 1 => some .driveFail
  | _ => none

def actionOf? : Nat → Option Action
  | 0 => some .load
  | 1 => some .unload
  | _ => none

def zoneModeOf? : Nat → Option ZoneMode
  | 0 => some .near
  | 1 => some .shelf
  | _ => none

def storeModeOf? : Nat → Option StoreMode
  | 0 => some .engineering
  | 1 => some .production
  | _ => none

def binOf? : Nat → Option Bin
  | 0 => some .a
  | 1 => some .b
  | 2 => some .rework
  | 3 => some .scrap
  | _ => none

/-- The kind with a code of Table 1-6; none for code 0 and for a code above 18. -/
def noticeKindOf? (code : Nat) : Option NoticeKind := if code = 0 then none else allKinds[code - 1]?

/-- The threshold or the stage field at a position, for a patch (R139). -/
def thresholdOf? : Nat → Option Threshold
  | 0 => some .a
  | 1 => some .b
  | 2 => some .r
  | _ => none

def stageFieldOf? : Nat → Option StageField
  | 0 => some .creditTarget
  | 1 => some .deadline
  | 2 => some .maxTemp
  | _ => none

/-- A patch target from its kind, selector and field (R139): LIMIT (0), STAGE (1), MIN_CREDIT (2). -/
def patchTargetOf? (kind selector field : Nat) : Option PatchTarget :=
  match kind with
  | 0 => (measureOf? selector).bind fun m => (thresholdOf? field).map fun t => .limit m t
  | 1 => (stepOf? selector).bind fun i => (stageFieldOf? field).map fun f => .stage i f
  | 2 => if selector = 0 ∧ field = 0 then some .minCredit else none
  | _ => none

/-! ### Value codes (Tables 1-3, 1-9 and the codes of Sections 7 and 8) -/

def RespCode.code : RespCode → Nat
  | .done => 0 | .accepted => 1 | .wrongState => 2 | .notPermitted => 3 | .range => 4 | .locked => 5 | .inUse => 6
  | .busy => 7 | .full => 8 | .tooLate => 9 | .duplicate => 10 | .storeError => 11 | .modeProtected => 12
  | .conflict => 13 | .invalidRecipe => 14 | .badFrame => 15 | .overrun => 16 | .unknown => 17

/-- The success codes; every other code is a refusal (R5). -/
def RespCode.success : RespCode → Bool
  | .done | .accepted => true
  | _ => false

def SlotState.code : SlotState → Nat
  | .empty => 0 | .loaded => 1 | .spinUpWait => 2 | .spinUp => 3 | .ready => 4 | .running => 5 | .complete => 6
  | .spinDown => 7 | .dispatchWait => 8 | .unload => 9

def SpinDownExit.code : SpinDownExit → Nat
  | .loaded => 0 | .dispatch => 1

def StageKind.code : StageKind → Nat
  | .soak => 0 | .exercise => 1 | .check => 2

def CreditMode.code : CreditMode → Nat
  | .always => 0 | .activeOnly => 1

def StagePhase.code : StagePhase → Nat
  | .active => 0 | .due => 1

def QuietState.code : QuietState → Nat
  | .normal => 0 | .asked => 1 | .quiet => 2

def Bin.code : Bin → Nat
  | .a => 0 | .b => 1 | .rework => 2 | .scrap => 3

def FaultKind.code : FaultKind → Nat
  | .latchOpen => 2 | .overtemp => 3 | .testAbort => 4 | .driveFail => 5

def Reason.code : Reason → Nat
  | .none => 0 | .fault _ => 1 | .disturbed => 2 | .creditShort => 3 | .overtime => 4 | .measure _ => 5 | .missing _ => 6

/-- The reason argument, 0 for a reason without one (R156). -/
def Reason.argument : Reason → Nat
  | .fault k => k.code
  | .measure id => id.val
  | .missing id => id.val
  | _ => 0

def BlockState.code : BlockState → Nat
  | .blank => 0 | .written => 1 | .invalid => 2

def StoreMode.code : StoreMode → Nat
  | .engineering => 0 | .production => 1

def StoreErrorKind.code : StoreErrorKind → Nat
  | .programFailed => 0 | .eraseFailed => 1 | .checkFailed => 2

def UnitState.code : UnitState → Nat
  | .off => 0 | .edit => 1 | .active => 2

/-- The wait queue of a bin. -/
def Bin.queue : Bin → Fin 4
  | .a => 0 | .b => 1 | .rework => 2 | .scrap => 3

/-! ### Request codes and permissions (Table 1-4) -/

/-- One row of Table 1-4: the code and its marks for the test, handler and line links. -/
structure RequestRow where
  code : Nat
  test : Bool
  handler : Bool
  line : Bool
  deriving DecidableEq, Repr

/-- Table 1-4. -/
def requestTable : List RequestRow :=
  [⟨0x01, true, true, true⟩, ⟨0x02, true, true, true⟩, ⟨0x03, true, true, true⟩, ⟨0x04, true, true, true⟩,
   ⟨0x05, false, false, true⟩, ⟨0x10, true, false, false⟩, ⟨0x11, true, false, false⟩, ⟨0x12, false, false, true⟩,
   ⟨0x13, false, false, true⟩, ⟨0x18, true, false, false⟩, ⟨0x19, true, false, false⟩, ⟨0x1A, true, false, false⟩,
   ⟨0x1B, true, false, false⟩, ⟨0x1C, true, false, false⟩, ⟨0x1D, true, false, false⟩, ⟨0x1E, true, true, true⟩] ++
  [⟨0x20, false, true, false⟩, ⟨0x21, false, true, false⟩, ⟨0x22, false, true, false⟩, ⟨0x23, true, false, false⟩,
   ⟨0x24, false, false, true⟩, ⟨0x28, false, false, true⟩, ⟨0x29, false, false, true⟩, ⟨0x2A, false, false, true⟩] ++
  [⟨0x30, false, false, true⟩, ⟨0x31, false, false, true⟩, ⟨0x32, false, false, true⟩, ⟨0x33, false, false, true⟩,
   ⟨0x34, false, false, true⟩, ⟨0x35, false, false, true⟩, ⟨0x36, false, false, true⟩, ⟨0x37, false, false, true⟩,
   ⟨0x38, false, false, true⟩, ⟨0x39, false, false, true⟩, ⟨0x3A, false, false, true⟩, ⟨0x3B, false, false, true⟩,
   ⟨0x3C, false, false, true⟩, ⟨0x3D, false, false, true⟩, ⟨0x3E, false, false, true⟩, ⟨0x3F, false, false, true⟩,
   ⟨0x40, false, false, true⟩] ++
  [⟨0x48, false, false, true⟩, ⟨0x49, false, false, true⟩, ⟨0x4A, false, false, true⟩, ⟨0x4B, false, false, true⟩,
   ⟨0x50, false, false, true⟩, ⟨0x51, false, false, true⟩, ⟨0x52, false, true, true⟩, ⟨0x53, false, false, true⟩,
   ⟨0x5F, false, false, true⟩]

/-- The mark of a row for a link. -/
def RequestRow.mark (r : RequestRow) : Link → Bool
  | .test => r.test
  | .handler => r.handler
  | .line => r.line

/-- The code is in Table 1-4. -/
def knownCode (code : Nat) : Bool := requestTable.any fun r => r.code == code

/-- The code is permitted on the link (1.3). -/
def permitted (code : Nat) (l : Link) : Bool := requestTable.any fun r => r.code == code && r.mark l

/-- A request of Section 7, whose refusal clears the lock override flag (R116). -/
def storeCode (code : Nat) : Bool := decide (0x30 ≤ code ∧ code ≤ 0x40)

/-- The request code of a request; 0, which is no request's code, for an event. -/
def requestCode : Instr → Nat
  | .takeNotice _ => 0x01 | .setLevels _ _ => 0x02 | .setMask _ _ => 0x03 | .readClock _ => 0x04 | .setTime _ _ => 0x05
  | .powerOn _ => 0x10 | .powerOff _ => 0x11 | .setPower _ _ _ => 0x12 | .setInputs _ _ _ => 0x13
  | .setSerial _ _ => 0x18 | .start _ _ => 0x19 | .advance _ => 0x1A | .measure _ _ _ => 0x1B | .finish _ => 0x1C
  | .abort _ _ => 0x1D | .readSlot _ _ => 0x1E
  | .accessRequest _ _ => 0x20 | .accessDone _ _ => 0x21 | .accessCancel _ => 0x22 | .quiet _ => 0x23
  | .setQuiet _ _ _ => 0x24 | .setScan _ _ => 0x28 | .setProfile _ _ _ _ => 0x29 | .setOffset _ _ => 0x2A
  | .stageHeader _ _ _ _ => 0x30 | .stageStep _ _ _ _ _ _ _ _ _ => 0x31 | .stageLimits _ _ _ _ _ => 0x32
  | .program _ => 0x33 | .erase _ => 0x34 | .blankCheck _ => 0x35 | .lock _ => 0x36 | .lockOverride => 0x37
  | .suspend => 0x38 | .resume => 0x39 | .stop => 0x3A | .clearStoreStatus => 0x3B | .setStoreMode _ => 0x3C
  | .storeClear => 0x3D | .setFetchPriority _ => 0x3E | .readRecipe _ _ => 0x3F | .readStore => 0x40
  | .patchEdit => 0x48 | .patchSet _ _ _ _ _ _ _ => 0x49 | .patchApply => 0x4A | .patchWithdraw => 0x4B
  | .openTote _ _ _ => 0x50 | .closeTote _ => 0x51 | .readTote _ _ _ => 0x52 | .releaseTote _ => 0x53
  | .rackReset => 0x5F
  | _ => 0

/-! ### Reading a payload (R6) -/

/-- The entries of SET LEVELS: pairs of a kind code and a level. -/
def pairsOf? : List Byte → Option (List (Nat × Nat))
  | [] => some []
  | k :: v :: rest => (pairsOf? rest).map ((k.toNat, v.toNat) :: ·)
  | [_] => none

/-- The rest of a string whose count byte has been read: the characters, and the bytes after them. -/
def takeString? (count : Byte) (bs : List Byte) : Option (List Byte × List Byte) :=
  if count.toNat ≤ bs.length then some (bs.take count.toNat, bs.drop count.toNat) else none

/-- An optional two-byte argument, unsigned or signed. -/
def optArg (p : Byte) (hi lo : Byte) : OptArg := ⟨p.toNat, beNat [hi, lo]⟩

def optSignedArg (p : Byte) (hi lo : Byte) : OptArg := ⟨p.toNat, signedOf 16 (beNat [hi, lo])⟩

/-- The request a frame with this code and payload carries on this link, or none when the payload's length is not the one
its arguments occupy (R2 case 3, R6). -/
def decodeRequest (l : Link) (code : Nat) (payload : List Byte) : Option Instr :=
  match code, payload with
  | 0x01, [] => some (.takeNotice l)
  | 0x02, n :: es => (pairsOf? es).bind fun ps => if ps.length = n.toNat then some (.setLevels l ps) else none
  | 0x03, [m] => some (.setMask l m.toNat)
  | 0x04, [] => some (.readClock l)
  | 0x05, [a, b, c, d, e, f] => some (.setTime (beNat [a, b, c, d]) (beNat [e, f]))
  | 0x10, [i] => some (.powerOn i.toNat)
  | 0x11, [i] => some (.powerOff i.toNat)
  | 0x12, [a, b, c] => some (.setPower a.toNat b.toNat c.toNat)
  | 0x13, [a, b, c] => some (.setInputs a.toNat b.toNat c.toNat)
  | 0x18, i :: n :: cs => if cs.length = n.toNat then some (.setSerial i.toNat cs) else none
  | 0x19, [i, a, b] => some (.start i.toNat (beNat [a, b]))
  | 0x1A, [i] => some (.advance i.toNat)
  | 0x1B, [i, m, a, b, c, d] => some (.measure i.toNat m.toNat (beNat [a, b, c, d]))
  | 0x1C, [i] => some (.finish i.toNat)
  | 0x1D, [i, r] => some (.abort i.toNat r.toNat)
  | 0x1E, [i] => some (.readSlot l i.toNat)
  | 0x20, [i, a] => some (.accessRequest i.toNat a.toNat)
  | 0x21, [r, o] => some (.accessDone r.toNat o.toNat)
  | 0x22, [r] => some (.accessCancel r.toNat)
  | 0x23, [i] => some (.quiet i.toNat)
  | 0x24, [m, t, h] => some (.setQuiet m.toNat t.toNat h.toNat)
  | 0x28, [p, w] => some (.setScan p.toNat w.toNat)
  | 0x29, p :: b1 :: b0 :: w :: fs =>
    if fs.length = 16 then some (.setProfile p.toNat (signedOf 16 (beNat [b1, b0])) w.toNat (fs.map (·.toNat))) else none
  | 0x2A, [i, o] => some (.setOffset i.toNat (signedOf 8 o.toNat))
  | 0x30, a :: b :: r :: n :: rest =>
    (takeString? n rest).bind fun (tag, tail) =>
      match tail with
      | [c, d] => some (.stageHeader (beNat [a, b]) r.toNat tag (beNat [c, d]))
      | _ => none
  | 0x31, [i, k, s, u, tp, t1, t0, m, p, lp, l1, l0, xp, x1, x0] =>
    some (.stageStep i.toNat k.toNat s.toNat u.toNat (optArg tp t1 t0) m.toNat p.toNat (optArg lp l1 l0)
      (optSignedArg xp x1 x0))
  | 0x32, [m, a3, a2, a1, a0, b3, b2, b1, b0, r3, r2, r1, r0, q] =>
    some (.stageLimits m.toNat (beNat [a3, a2, a1, a0]) (beNat [b3, b2, b1, b0]) (beNat [r3, r2, r1, r0]) q.toNat)
  | 0x33, [b] => some (.program b.toNat)
  | 0x34, [b] => some (.erase b.toNat)
  | 0x35, [b] => some (.blankCheck b.toNat)
  | 0x36, [b] => some (.lock b.toNat)
  | 0x37, [] => some .lockOverride
  | 0x38, [] => some .suspend
  | 0x39, [] => some .resume
  | 0x3A, [] => some .stop
  | 0x3B, [] => some .clearStoreStatus
  | 0x3C, [m] => some (.setStoreMode m.toNat)
  | 0x3D, [] => some .storeClear
  | 0x3E, [p] => some (.setFetchPriority p.toNat)
  | 0x3F, [b, p] => some (.readRecipe b.toNat p.toNat)
  | 0x40, [] => some .readStore
  | 0x48, [] => some .patchEdit
  | 0x49, [c, e, b, k, s, f, v3, v2, v1, v0] =>
    some (.patchSet c.toNat e.toNat b.toNat k.toNat s.toNat f.toNat (beNat [v3, v2, v1, v0]))
  | 0x4A, [] => some .patchApply
  | 0x4B, [] => some .patchWithdraw
  | 0x50, [a, b, c, d, e, f] => some (.openTote (beNat [a, b, c, d]) e.toNat f.toNat)
  | 0x51, [r] => some (.closeTote r.toNat)
  | 0x52, [r, p] => some (.readTote l r.toNat p.toNat)
  | 0x53, [r] => some (.releaseTote r.toNat)
  | 0x5F, [] => some .rackReset
  | _, _ => none

/-- The bytes of an optional two-byte argument. -/
def optArgBytes (a : OptArg) : List Byte := byteOf a.presence :: be16 (twosOf 16 a.value)

/-- The payload that carries a request's arguments (R6); empty for an event. -/
def encodeArgs : Instr → List Byte
  | .setLevels _ es => byteOf es.length :: es.flatMap fun e => [byteOf e.1, byteOf e.2]
  | .setMask _ m => [byteOf m]
  | .setTime t m => be32 t ++ be16 m
  | .powerOn i => [byteOf i]
  | .powerOff i => [byteOf i]
  | .setPower a b c => [byteOf a, byteOf b, byteOf c]
  | .setInputs a b c => [byteOf a, byteOf b, byteOf c]
  | .setSerial i cs => byteOf i :: stringBytes cs
  | .start i r => byteOf i :: be16 r
  | .advance i => [byteOf i]
  | .measure i m v => byteOf i :: byteOf m :: be32 v
  | .finish i => [byteOf i]
  | .abort i r => [byteOf i, byteOf r]
  | .readSlot _ i => [byteOf i]
  | .accessRequest i a => [byteOf i, byteOf a]
  | .accessDone r o => [byteOf r, byteOf o]
  | .accessCancel r => [byteOf r]
  | .quiet i => [byteOf i]
  | .setQuiet m t h => [byteOf m, byteOf t, byteOf h]
  | .setScan p w => [byteOf p, byteOf w]
  | .setProfile p b w fs => byteOf p :: be16 (twosOf 16 b) ++ byteOf w :: fs.map byteOf
  | .setOffset i o => [byteOf i, byteOf (twosOf 8 o)]
  | .stageHeader i r tag c => be16 i ++ byteOf r :: stringBytes tag ++ be16 c
  | .stageStep i k s u t m p d x =>
    [byteOf i, byteOf k, byteOf s, byteOf u] ++ optArgBytes t ++ [byteOf m, byteOf p] ++ optArgBytes d ++ optArgBytes x
  | .stageLimits m a b r q => byteOf m :: be32 a ++ be32 b ++ be32 r ++ [byteOf q]
  | .program b => [byteOf b]
  | .erase b => [byteOf b]
  | .blankCheck b => [byteOf b]
  | .lock b => [byteOf b]
  | .setStoreMode m => [byteOf m]
  | .setFetchPriority p => [byteOf p]
  | .readRecipe b p => [byteOf b, byteOf p]
  | .patchSet c e b k s f v => [byteOf c, byteOf e, byteOf b, byteOf k, byteOf s, byteOf f] ++ be32 v
  | .openTote t b c => be32 t ++ [byteOf b, byteOf c]
  | .closeTote r => [byteOf r]
  | .readTote _ r p => [byteOf r, byteOf p]
  | .releaseTote r => [byteOf r]
  | _ => []

end Sys2Proof.Machine
end

