-- ==== Sys2Proof/Machine/Frames.lean ====
section
/-! DEFINITION. The check sums of the frames and of the sensor bus, response frames (Table 1-2), time stamps (R15). -/

namespace Sys2Proof.Machine

/-- One bit of the CRC-16 with the polynomial x^16 + x^12 + x^5 + 1, most significant bit first (R2). -/
def crc16Bit (c : BitVec 16) : BitVec 16 := if c.msb then (c <<< 1) ^^^ 0x1021#16 else c <<< 1

/-- One byte of the CRC-16. -/
def crc16Byte (c : BitVec 16) (b : Byte) : BitVec 16 :=
  let d := c ^^^ (b.setWidth 16 <<< 8)
  crc16Bit (crc16Bit (crc16Bit (crc16Bit (crc16Bit (crc16Bit (crc16Bit (crc16Bit d)))))))

/-- The CRC-16 of a byte sequence, starting from FFFF hexadecimal, not inverted (R2). -/
def crc16 (bs : List Byte) : BitVec 16 := bs.foldl crc16Byte 0xFFFF#16

/-- One bit of the sensor check with the polynomial x^8 + x^5 + x^4 + 1, least significant bit first (R99). -/
def crc8Bit (c : Byte) : Byte := if c.getLsbD 0 then (c >>> 1) ^^^ 0x8C#8 else c >>> 1

/-- One byte of the sensor check. -/
def crc8Byte (c b : Byte) : Byte :=
  let d := c ^^^ b
  crc8Bit (crc8Bit (crc8Bit (crc8Bit (crc8Bit (crc8Bit (crc8Bit (crc8Bit d)))))))

/-- The sensor check of a byte sequence, starting from 0 (R99). -/
def crc8 (bs : List Byte) : Byte := bs.foldl crc8Byte 0#8

/-- A response frame: marker, length, echoed request code, response code, payload and CRC (Table 1-2, R2, R5). -/
def responseFrame (echo : Nat) (code : RespCode) (payload : List Byte) : List Byte :=
  let covered := byteOf payload.length :: byteOf echo :: byteOf code.code :: payload
  Config.responseMarker :: covered ++ be16 (crc16 covered).toNat

/-- A request frame with this code and payload (Table 1-1). -/
def requestFrameBytes (code : Nat) (payload : List Byte) : List Byte :=
  let covered := byteOf payload.length :: byteOf code :: payload
  Config.requestMarker :: covered ++ be16 (crc16 covered).toNat

/-- A rack time in a result: four bytes of seconds, two of milliseconds (R15). -/
def stampBytes (t : RackTime) : List Byte := be32 t.seconds ++ be16 t.millis

/-- An optional rack time in a result; absent reads FFFFFFFF and 65535 (R15). -/
def optStampBytes : Option RackTime → List Byte
  | some t => stampBytes t
  | none => be32 4294967295 ++ be16 65535

/-- A serial in the READ SLOT result: its length and its characters, zero up to 20 (Table 1-8); length 0 when absent. -/
def serialBytes (s : Option (List Byte)) : List Byte :=
  let cs := (s.getD []).take 20
  byteOf cs.length :: cs ++ List.replicate (20 - cs.length) 0#8

/-- A time reaches or passes another: seconds first, milliseconds second (2.1). -/
def RackTime.reaches (t d : RackTime) : Bool :=
  decide (d.seconds < t.seconds) || (decide (t.seconds = d.seconds) && decide (d.millis ≤ t.millis))

/-- The greatest rack time, at which the clock holds (R18). -/
def RackTime.maximum : RackTime := ⟨Config.maxSeconds, 999⟩

/-- Rack time one millisecond on, held at the maximum (R18). -/
def RackTime.next (t : RackTime) : RackTime :=
  if t.millis < 999 then ⟨t.seconds, t.millis + 1⟩
  else if t.seconds < Config.maxSeconds then ⟨t.seconds + 1, 0⟩
  else t

/-- The deadline of a stage captured at a time under a limit in minutes (R24). -/
def RackTime.deadlineAfter (t : RackTime) (minutes : Nat) : RackTime :=
  if Config.maxSeconds < t.seconds + minutes * 60 then .maximum else ⟨t.seconds + minutes * 60, t.millis⟩

end Sys2Proof.Machine
end

