-- ==== Sys2Proof/Machine/Flags.lean ====
section
/-! DEFINITION. The computed flags: the attention line (R9), the order in which notices are taken (R10), the bits of the
READ SLOT present-fields byte (R16), and the conditions on a stage that several blocks read. -/

namespace Sys2Proof.Machine

/-- The level a link holds for a kind. -/
def LinkState.level (ls : LinkState) (k : NoticeKind) : Nat := tget ls.levels k.place

/-- The condition of the attention line: a pending pair has a level above the mask level (R9). -/
def LinkState.attentionDue (ls : LinkState) : Bool := ls.notices.any fun p => decide (ls.mask < ls.level p.1)

/-- The attention line re-evaluated (R9). -/
def LinkState.refresh (ls : LinkState) : LinkState := { ls with attention := ls.attentionDue }

/-- Pair p is taken before pair q: the higher level first, then the lower kind code, then the lower index (R10). -/
def LinkState.before (ls : LinkState) (p q : NoticeKind × Nat) : Bool :=
  decide (ls.level q.1 < ls.level p.1) ||
    (decide (ls.level p.1 = ls.level q.1) &&
      (decide (p.1.code < q.1.code) || (decide (p.1.code = q.1.code) && decide (p.2 < q.2))))

/-- The first of a pair and a list of pairs in the order of R10. -/
def LinkState.firstOf (ls : LinkState) (p : NoticeKind × Nat) : List (NoticeKind × Nat) → NoticeKind × Nat
  | [] => p
  | q :: rest => if ls.before q p then ls.firstOf q rest else ls.firstOf p rest

/-- The pair TAKE NOTICE returns, none from an empty set (R10). -/
def LinkState.choice (ls : LinkState) : Option (NoticeKind × Nat) :=
  match ls.notices with
  | [] => none
  | p :: rest => some (ls.firstOf p rest)

/-- A byte of eight flags, bit 0 first. -/
def bitsByte (bits : List Bool) : Byte := byteOf (bits.foldr (fun b acc => (if b then 1 else 0) + 2 * acc) 0)

/-- The number whose bit i is the i-th flag, for the sixteen-bit mark fields. -/
def bitsNat (bits : List Bool) : Nat := bits.foldr (fun b acc => (if b then 1 else 0) + 2 * acc) 0

/-- The present-fields byte of READ SLOT (R16, byte 8). -/
def SlotRecord.presentFields (r : SlotRecord) : Byte :=
  bitsByte [r.serial.isSome, r.recipe.isSome, r.context.isSome, (r.context.bind (·.target)).isSome,
    (r.context.bind (·.maxTemp)).isSome, r.grade.isSome, r.fault.isSome, r.patchGen.isSome]

/-- The slot is RUNNING a sensitive stage. -/
def SlotRecord.runsSensitive (r : SlotRecord) : Bool :=
  r.state == .running && (r.context.map (·.sensitive)).getD false

/-- The slot is RUNNING a sensitive stage with quiet state NORMAL or ASKED: it blocks a grant (R82) and is exposed to a
disturbance (R60). -/
def SlotRecord.exposed (r : SlotRecord) : Bool := r.runsSensitive && r.quiet != .quiet

/-- The slot is RUNNING a sensitive, suspendable stage with quiet state NORMAL (R59, R81). -/
def SlotRecord.askable (r : SlotRecord) : Bool :=
  r.runsSensitive && (r.context.map (·.suspendable)).getD false && r.quiet == .normal

/-- The slot takes credit: RUNNING, a credit target, phase ACTIVE, and credit mode ALWAYS or quiet state NORMAL or ASKED
(R58). The answer is the target. -/
def SlotRecord.creditTarget? (r : SlotRecord) : Option Nat :=
  if r.state = .running ∧ r.phase = .active then
    r.context.bind fun c => if c.mode = .always ∨ r.quiet ≠ .quiet then c.target else none
  else none

/-- The lock of a slot's switch positions that lets a placed load end: PRESENT and CLOSED (R90). -/
def SlotRecord.seated (r : SlotRecord) : Bool := r.present && r.closed

end Sys2Proof.Machine
end

