-- ==== Sys2Proof/Machine/Ops.lean ====
section
/-! DEFINITION. The named operations over the state that several commands share: tables, notices, responses, held requests,
the slot table, the events on their way, the timers of the reference oscillator. -/

namespace Sys2Proof.Machine

/-! ### Links -/

/-- A link's interface. -/
def State.link (s : State) : Link → LinkState
  | .test => s.testLink
  | .handler => s.handlerLink
  | .line => s.lineLink

/-- The state with one link's interface replaced. -/
def State.setLink (s : State) (l : Link) (ls : LinkState) : State :=
  match l with
  | .test => { s with testLink := ls }
  | .handler => { s with handlerLink := ls }
  | .line => { s with lineLink := ls }

/-- A posted notice at one link (R8): not recorded at level 0, merged with an equal pending pair, else joined to the set. -/
def LinkState.post (ls : LinkState) (k : NoticeKind) (index : Nat) : LinkState :=
  if ls.level k = 0 ∨ (k, index) ∈ ls.notices then ls
  else { ls with notices := ls.notices ++ [(k, index)] }.refresh

/-- A posted notice at one link, if Table 1-6 marks that link for its kind. -/
def State.linkPost (s : State) (l : Link) (k : NoticeKind) (index : Nat) : LinkState :=
  if k.recordedOn l then (s.link l).post k index else s.link l

/-- Posting a notice to every link that records its kind (R8). -/
def State.post (s : State) (k : NoticeKind) (index : Nat) : State :=
  { s with testLink := s.linkPost .test k index, handlerLink := s.linkPost .handler k index,
           lineLink := s.linkPost .line k index }

/-- The output list has room for one more frame (R4). -/
def LinkState.hasRoom (ls : LinkState) : Bool := decide (ls.output.length < Config.outputDepth)

/-- A BAD_FRAME or OVERRUN answer to a frame that was not taken: lost when the output list is full (R4). -/
def LinkState.answerUntaken (ls : LinkState) (echo : Nat) (code : RespCode) : LinkState :=
  if ls.hasRoom then { ls with output := ls.output ++ [responseFrame echo code []] } else ls

/-- The response to the taken request: it enters the output list, which releases the request; while the list is full it
waits and the request stays held (R3, R4). -/
def LinkState.respond (ls : LinkState) (frame : List Byte) : LinkState :=
  if ls.hasRoom then { ls with output := ls.output ++ [frame], held := none } else { ls with held := some (.answered frame) }

/-- An answer to a frame that was not taken. -/
def State.answerUntaken (s : State) (l : Link) (echo : Nat) (code : RespCode) : State :=
  s.setLink l ((s.link l).answerUntaken echo code)

/-- The response to the request a link holds. Only DONE carries a payload (R5). -/
def State.respond (s : State) (l : Link) (echo : Nat) (code : RespCode) (payload : List Byte) : State :=
  s.setLink l ((s.link l).respond (responseFrame echo code payload))

/-- The state with a link's held request replaced. -/
def State.hold (s : State) (l : Link) (h : Option Held) : State := s.setLink l { s.link l with held := h }

/-! ### Serving a request -/

/-- What an owning block makes of a request. -/
inductive Reply where
  /-- The response, at once. -/
  | now (code : RespCode) (payload : List Byte)
  /-- The request stays held until a later event answers it (R3). -/
  | later
  /-- The request has not been served yet and stays held as it is (R89). -/
  | notYet
  deriving DecidableEq, Repr

/-- DONE with a result. -/
def Reply.done (payload : List Byte) : Reply := .now .done payload

/-- A refusal. -/
def Reply.refuse (code : RespCode) : Reply := .now code []

/-- The link takes note of what the owning block made of its request. -/
def State.settle (s : State) (l : Link) (c : Instr) : Reply → State
  | .now code payload => s.respond l (requestCode c) code payload
  | .later => s.hold l (some (.serving c))
  | .notYet => s.hold l (some (.passed c))

/-- The lock override flag cleared, as the refusal of any request of Section 7 does (R116). -/
def State.clearOverride (s : State) : State := { s with rst := { s.rst with lockOverride := false } }

/-- A taken request refused by the link itself: UNKNOWN, NOT_PERMITTED or BAD_FRAME (R2 case 3). The refusal of a request of
Section 7, with any response code, clears the lock override flag (R116, log entry 10). -/
def State.refuseTaken (s : State) (l : Link) (code : Nat) (why : RespCode) : State :=
  (if storeCode code then s.clearOverride else s).respond l code why []

/-- A request reaches its owning block (log entry 5): the request the link holds, passed to its block, is served. A request
that comes while the link holds none is taken with it; one that comes while the link holds another is answered OVERRUN
(R2). A request on a link that Table 1-4 does not mark is answered NOT_PERMITTED. -/
def State.request (s : State) (l : Link) (c : Instr) (serve : State → State × Reply) : State :=
  match (s.link l).held with
  | none =>
    if permitted (requestCode c) l then (serve s).1.settle l c (serve s).2
    else s.refuseTaken l (requestCode c) .notPermitted
  | some h =>
    if h = .passed c then (serve s).1.settle l c (serve s).2
    else s.answerUntaken l (requestCode c) .overrun

/-! ### Timers of the reference oscillator -/

/-- The reference oscillator has reached a count (log entry 1). -/
def State.reached (s : State) (count : Nat) : Bool := decide (count ≤ s.rck.osc)

/-- The expiry count of a timer started now for a number of seconds. -/
def State.inSeconds (s : State) (seconds : Nat) : Nat := s.rck.osc + seconds * 1000

/-- A timer is running and its count has been reached. -/
def State.timerDue (s : State) : Option Nat → Bool
  | some count => s.reached count
  | none => false

/-! ### The slot table and the events on their way -/

/-- A slot's record. -/
def State.slot (s : State) (i : Slot) : SlotRecord := tget s.slots i

/-- The events on their way for a slot. -/
def State.mailOf (s : State) (i : Slot) : Mail := tget s.mail i

/-- The state with one slot's events on their way replaced. -/
def State.setMail (s : State) (i : Slot) (m : Mail) : State := { s with mail := tset s.mail i m }

/-- The change of record that SSQ reports to QAC: of the state, the stage index or the quiet state (R50). -/
def SlotRecord.reportable (old new : SlotRecord) : Bool :=
  !(old.state == new.state && old.stage == new.stage && old.quiet == new.quiet)

/-- SSQ writes a slot record, and reports a change of its state, stage index or quiet state to QAC (R50). -/
def State.putSlot (s : State) (i : Slot) (r : SlotRecord) : State :=
  let m := s.mailOf i
  let m' := if (s.slot i).reportable r then { m with changes := m.changes + 1 } else m
  { s with slots := tset s.slots i r, mail := tset s.mail i m' }

/-- SSQ gives PSQ an order for a slot; it reaches PSQ after the orders given before it (3.4). -/
def State.giveOrder (s : State) (i : Slot) (o : PowerOrder) : State :=
  s.setMail i { s.mailOf i with orders := (s.mailOf i).orders ++ [o] }

/-- PSQ reports to SSQ for a slot; the report reaches SSQ after those sent before it (3.4). -/
def State.giveReport (s : State) (i : Slot) (r : PowerReport) : State :=
  s.setMail i { s.mailOf i with reports := (s.mailOf i).reports ++ [r] }

/-- An access record is GRANTED for a slot, whatever its action (R94). -/
def AccessRecord.grants (r : AccessRecord) (i : Slot) : Bool :=
  match r with
  | .granted u _ _ => u.target == i
  | _ => false

/-- An access record is GRANTED for a slot with the given action (R51, R70). -/
def AccessRecord.grantsAction (r : AccessRecord) (i : Slot) (a : Action) : Bool :=
  match r with
  | .granted u _ _ => u.target == i && u.action == a
  | _ => false

/-- QAC's answer to SSQ: a GRANTED record with this action targets the slot (R51, R70). -/
def State.grantedFor (s : State) (i : Slot) (a : Action) : Bool :=
  (tget s.qac.records 0).grantsAction i a || (tget s.qac.records 1).grantsAction i a

/-- The hold count QAC holds for a slot (R79). -/
def State.holdCount (s : State) (i : Slot) : Nat := tget s.qac.holds i

/-! ### Rack time and the deadline watch list (R24, R25, R27) -/

/-- The current rack time, which every time stamp copies (R23). -/
def State.now (s : State) : RackTime := s.rck.time

/-- A watch list entry whose deadline the time reaches or passes (R25). -/
def firedAt (t : RackTime) : Option Deadline → Option Deadline
  | some d => if t.reaches d.time then some d else none
  | none => none

/-- A slot's mail after the comparison of its watch list entry: the fired deadline's expiry is on its way to SSQ. -/
def Mail.withExpiry (m : Mail) : Option Deadline → Mail
  | some d => { m with deadlines := m.deadlines ++ [d] }
  | none => m

/-- RCK compares the whole watch list with rack time: each reached entry becomes absent and its expiry is delivered (R25). -/
def State.compareDeadlines (s : State) : State :=
  { s with
    rck := { s.rck with watch := tof fun i =>
      if (firedAt s.now (tget s.rck.watch i)).isSome then none else tget s.rck.watch i }
    mail := tof fun i => (s.mailOf i).withExpiry (firedAt s.now (tget s.rck.watch i)) }

/-- SSQ makes a slot's watch list entry present or absent; a new entry is compared with rack time at once (R24, R27). -/
def State.arm (s : State) (i : Slot) (entry : Option Deadline) : State :=
  { s with
    rck := { s.rck with watch := tset s.rck.watch i (if (firedAt s.now entry).isSome then none else entry) }
    mail := tset s.mail i ((s.mailOf i).withExpiry (firedAt s.now entry)) }

/-! ### References and dispatch notes (R131, R160) -/

/-- RST's record of a block. -/
def State.block (s : State) (b : BlockNo) : RecipeBlock := tget s.rst.blocks b

/-- The state with one block's record replaced. -/
def State.setBlock (s : State) (b : BlockNo) (k : RecipeBlock) : State :=
  { s with rst := { s.rst with blocks := tset s.rst.blocks b k } }

/-- SSQ releases a reference to a block: its count falls by one (R131). -/
def State.releaseRef (s : State) (b : BlockNo) : State :=
  s.setBlock b { s.block b with refs := (s.block b).refs - 1 }

/-- SSQ releases the reference a slot record holds, if it holds one. -/
def State.releaseRefOf (s : State) (r : SlotRecord) : State :=
  match r.recipe with
  | some ref => s.releaseRef ref.block
  | none => s

/-- The state with a slot's dispatch note replaced (R160). -/
def State.setNote (s : State) (i : Slot) (n : Option (Nat × Nat)) : State :=
  { s with ttb := { s.ttb with notes := tset s.ttb.notes i n } }

end Sys2Proof.Machine
end

