-- ==== Sys2Proof/Machine/Clock.lean ====
section
/-! DEFINITION. The rack clock, RCK (Section 2): rack time, the accounting tick, the clock requests, and SSQ's service of a
deadline expiry. -/

namespace Sys2Proof.Machine

/-- One millisecond of the reference oscillator at RCK: the oscillator count, rack time (held at its maximum) and the tick
phase advance; when the phase would reach 1000 it returns to 0 and an accounting tick is delivered (R18, R22). -/
def State.oscillate (s : State) : State :=
  if s.rck.tickPhase + 1 < Config.tickMillis then
    { s with rck := { s.rck with osc := s.rck.osc + 1, time := s.rck.time.next, tickPhase := s.rck.tickPhase + 1 } }
  else
    { s with rck := { s.rck with osc := s.rck.osc + 1, time := s.rck.time.next, tickPhase := 0 }, ticks := s.ticks + 1 }

/-- The marks list with OVERTIME on one stage's entry. -/
def markOvertime (marks : List Marks) (stage : Nat) : List Marks :=
  marks.modify stage fun m => { m with overtime := true }

/-- SSQ serves a deadline expiry: OVERTIME on the current stage and DEADLINE posted when the slot is RUNNING the stage the
expiry names with the deadline it names, else nothing (R26). -/
def State.serveExpiry (s : State) (i : Slot) (d : Deadline) : State :=
  let r := s.slot i
  if r.state = .running ∧ r.stage = d.stage ∧ (r.context.bind (·.deadline)) = some d.time then
    (s.putSlot i { r with marks := markOvertime r.marks r.stage }).post .deadline i.val
  else s

/-- READ CLOCK's result (Table 1-7). -/
def Rck.result (q : Rck) : List Byte := stampBytes q.time ++ [flagByte q.unset]

/-- SET TIME at RCK (R20, R28). -/
def serveSetTime (seconds millis : Nat) (s : State) : State × Reply :=
  match natIn? 0 Config.maxSeconds seconds, natIn? 0 999 millis with
  | some t, some m => ({ s with rck := { s.rck with time := ⟨t, m⟩, unset := false } }.compareDeadlines, .done [])
  | _, _ => (s, .refuse .range)

/-- READ CLOCK at RCK (R21). -/
def serveReadClock (s : State) : State × Reply := (s, .done s.rck.result)

/-- RACK_TIME_ADVANCE (R18, R25). -/
def execRackTimeAdvance (s : State) : Host.Outcome State Fault Refusal := .next s.oscillate.compareDeadlines

/-- ACCOUNTING_TICK (R22, R108): an accounting tick reaches TAU, which serves each slot by itself. -/
def execAccountingTick (s : State) : Host.Outcome State Fault Refusal :=
  if s.ticks = 0 then .next s
  else .next { s with
    ticks := s.ticks - 1
    mail := tof fun i => { s.mailOf i with credits := (s.mailOf i).credits + 1 } }

/-- DEADLINE_EXPIRY (R26). -/
def execDeadlineExpiry (i : Slot) (s : State) : Host.Outcome State Fault Refusal :=
  match (s.mailOf i).deadlines with
  | [] => .next s
  | d :: rest => .next ((s.setMail i { s.mailOf i with deadlines := rest }).serveExpiry i d)

/-- SET_TIME (R20). DESIGN CHOICE (log entry 28): the deadlines that the new time reaches fire before DONE enters the output
list, as R20 says, and in the same step; SSQ serves their expiries (R26) after it, each by its own DEADLINE_EXPIRY. -/
def execSetTime (seconds millis : Nat) (s : State) : Host.Outcome State Fault Refusal :=
  .next (s.request .line (.setTime seconds millis) (serveSetTime seconds millis))

/-- READ_CLOCK (R21). -/
def execReadClock (l : Link) (s : State) : Host.Outcome State Fault Refusal :=
  .next (s.request l (.readClock l) serveReadClock)

end Sys2Proof.Machine
end

