-- ==== Sys2Proof/Machine/Inputs.lean ====
section
/-! DEFINITION. The slot input filter, SIF (3.1, 3.2): SAMPLE and SET INPUTS. -/

namespace Sys2Proof.Machine

/-- The logical level of a raw level under a polarity: true for PRESENT or CLOSED (R30). -/
def Polarity.reads (p : Polarity) (high : Bool) : Bool :=
  match p with
  | .activeLow => !high
  | .activeHigh => high

/-- One input compared with the level it reads: its filter after the sample, and whether the change is accepted (R31). -/
def InputFilter.sample (f : InputFilter) (level : Bool) : InputFilter × Bool :=
  if level = f.accepted then ({ f with run := 0 }, false)
  else if 3 ≤ f.run + 1 then (⟨level, 0⟩, true)
  else ({ f with run := f.run + 1 }, false)

/-- The change delivered by an accepted sample (R32, R33). DESIGN CHOICE (log entry 24): the start-up flag is set at the third
sample after the reset effect, as R33 says, also where SET INPUTS changed the group's polarity before the first sample, whose
changes R35 would have delivered with the flag clear. -/
def Sif.change (q : Sif) (level : Bool) (now : RackTime) : InputChange :=
  { level := level, stamp := now, startUp := q.startUpCount == 2 }

/-- The level slot i's presence input reads at a sample. -/
def Sif.presenceLevel (q : Sif) (raw : BitVec 24) (i : Slot) : Bool := q.presencePolarity.reads (raw.getLsbD i.val)

/-- The level slot i's latch input reads at a sample. -/
def Sif.latchLevel (q : Sif) (raw : BitVec 24) (i : Slot) : Bool := q.latchPolarity.reads (raw.getLsbD i.val)

/-- A slot's mail after a sample: an accepted change of either input is on its way to SSQ and to QAC (R32). -/
def Mail.withChanges (m : Mail) (presence latch : Option InputChange) : Mail :=
  { m with
    presenceToSsq := m.presenceToSsq ++ presence.toList
    presenceToQac := m.presenceToQac ++ presence.toList
    latchToSsq := m.latchToSsq ++ latch.toList
    latchToQac := m.latchToQac ++ latch.toList }

/-- The change an input's sample delivers, if it is accepted. -/
def Sif.delivered (q : Sif) (f : InputFilter) (level : Bool) (now : RackTime) : Option InputChange :=
  if (f.sample level).2 then some (q.change level now) else none

/-- SIF's state after a sample (R30, R31). -/
def Sif.sampled (q : Sif) (presence latch : BitVec 24) (osc : Nat) : Sif :=
  { q with
    presence := tof fun i => ((tget q.presence i).sample (q.presenceLevel presence i)).1
    latch := tof fun i => ((tget q.latch i).sample (q.latchLevel latch i)).1
    startUpCount := min 3 (q.startUpCount + 1)
    lastSampleAt := osc }

/-- SIF takes a sample of all 48 inputs (R30 to R33). -/
def State.sampleInputs (s : State) (presence latch : BitVec 24) : State :=
  { s with
    sif := s.sif.sampled presence latch s.rck.osc
    mail := tof fun i => (s.mailOf i).withChanges
      (s.sif.delivered (tget s.sif.presence i) (s.sif.presenceLevel presence i) s.now)
      (s.sif.delivered (tget s.sif.latch i) (s.sif.latchLevel latch i) s.now) }

/-- The runs of an input group restarted when its polarity changes (R35). -/
def restartRuns (old new : Polarity) (group : Vector InputFilter 24) : Vector InputFilter 24 :=
  if new = old then group else tof fun i => { tget group i with run := 0 }

/-- SET INPUTS at SIF (R34, R35). -/
def serveSetInputs (interval presencePolarity latchPolarity : Nat) (s : State) : State × Reply :=
  match intervalOf? interval, polarityOf? presencePolarity, polarityOf? latchPolarity with
  | some ms, some pp, some lp =>
    ({ s with sif := { s.sif with
        interval := ms, presencePolarity := pp, latchPolarity := lp
        presence := restartRuns s.sif.presencePolarity pp s.sif.presence
        latch := restartRuns s.sif.latchPolarity lp s.sif.latch } }, .done [])
  | _, _, _ => (s, .refuse .range)

/-- SAMPLE (R30): a sample is taken once a sample interval has passed since the last one, or since the reset effect. -/
def execSample (presence latch : BitVec 24) (s : State) : Host.Outcome State Fault Refusal :=
  if s.reached (s.sif.lastSampleAt + s.sif.interval) then .next (s.sampleInputs presence latch) else .next s

/-- SET_INPUTS (R34). -/
def execSetInputs (interval presencePolarity latchPolarity : Nat) (s : State) : Host.Outcome State Fault Refusal :=
  .next (s.request .line (.setInputs interval presencePolarity latchPolarity)
    (serveSetInputs interval presencePolarity latchPolarity))

end Sys2Proof.Machine
end

