-- ==== Sys2Proof/Machine/Links.lean ====
section
/-! DEFINITION. The link interfaces (Section 1): the receiver, the checks of a complete frame, the output list, the notice
requests, RACK RESET and the reset effect. -/

namespace Sys2Proof.Machine

/-! ### Complete frames (R2) -/

/-- The CRC of a complete frame matches: `received` holds the request code, the payload and the two CRC bytes (R2). -/
def frameSound (length : Nat) (received : List Byte) : Bool :=
  (crc16 (byteOf length :: received.take (length + 1))).toNat == beNat (received.drop (length + 1))

/-- The request code of the bytes received in BODY, 0 before it has come (R1). -/
def receivedCode (received : List Byte) : Nat := (received.head?.map (·.toNat)).getD 0

/-- The payload of a complete frame. -/
def receivedPayload (length : Nat) (received : List Byte) : List Byte := (received.drop 1).take length

/-- A frame is taken and checked further (R2 case 3). -/
def State.takeFrame (s : State) (l : Link) (code : Nat) (payload : List Byte) : State :=
  if knownCode code = false then s.refuseTaken l code .unknown
  else if permitted code l = false then s.refuseTaken l code .notPermitted
  else match decodeRequest l code payload with
    | none => s.refuseTaken l code .badFrame
    | some c => s.hold l (some (.passed c))

/-- A complete frame is checked, in the order of R2. -/
def State.completeFrame (s : State) (l : Link) (length : Nat) (received : List Byte) : State :=
  let code := receivedCode received
  if frameSound length received = false then s.answerUntaken l code .badFrame
  else if (s.link l).held.isSome then s.answerUntaken l code .overrun
  else s.takeFrame l code (receivedPayload length received)

/-! ### The receiver (R1) -/

/-- The state with a link's receiver replaced. -/
def State.setReceiver (s : State) (l : Link) (r : Receiver) : State := s.setLink l { s.link l with receiver := r }

/-- A byte is taken in HEADER or BODY, or opens a frame: the frame timeout restarts (R1). -/
def State.goOn (s : State) (l : Link) (r : Receiver) : State :=
  s.setLink l { s.link l with receiver := r, lastByteAt := s.rck.osc }

/-- A byte arrives at a link's receiver (R1). -/
def State.receive (s : State) (l : Link) (x : Byte) : State :=
  match (s.link l).receiver with
  | .hunt => if x = Config.requestMarker then s.goOn l .header else s
  | .header =>
    if Config.maxPayload < x.toNat then (s.setReceiver l .hunt).answerUntaken l 0 .badFrame
    else s.goOn l (.body x.toNat [])
  | .body length received =>
    if received.length + 1 = length + 3 then (s.setReceiver l .hunt).completeFrame l length (received ++ [x])
    else s.goOn l (.body length (received ++ [x]))

/-- The code a timed-out frame is answered with, when a partial frame stands in the receiver (R1). -/
def Receiver.partialCode? : Receiver → Option Nat
  | .hunt => none
  | .header => some 0
  | .body _ received => some (receivedCode received)

/-! ### The output list (R4) -/

/-- A waiting response enters the output list and releases the request (R3, R4). -/
def LinkState.enter (ls : LinkState) : LinkState :=
  match ls.held with
  | some (.answered frame) => if ls.hasRoom then { ls with output := ls.output ++ [frame], held := none } else ls
  | _ => ls

/-- The response frame of a RACK RESET (R13). -/
def resetFrame : List Byte := responseFrame 0x5F .done []

/-! ### Notices (R10 to R12) -/

/-- TAKE NOTICE at a link (R10, Table 1-7). -/
def serveTakeNotice (l : Link) (s : State) : State × Reply :=
  let ls := s.link l
  match ls.choice with
  | none => (s, .done [0#8, 255#8, 0#8, 0#8])
  | some p =>
    let rest := ls.notices.erase p
    (s.setLink l { ls with notices := rest }.refresh,
      .done [byteOf p.1.code, byteOf p.2, byteOf (ls.level p.1), byteOf (min 255 rest.length)])

/-- One entry of SET LEVELS is legal on a link (R11). -/
def levelEntryOk (l : Link) (e : Nat × Nat) : Bool :=
  match noticeKindOf? e.1 with
  | some k => k.recordedOn l && decide (e.2 ≤ 15)
  | none => false

/-- The list of SET LEVELS passes (R11). -/
def levelsOk (l : Link) (es : List (Nat × Nat)) : Bool :=
  decide (1 ≤ es.length ∧ es.length ≤ 18) && es.all (levelEntryOk l) && decide (es.map (·.1)).Nodup

/-- The level table with one entry of SET LEVELS written. -/
def writeLevel (levels : Vector Nat 18) (e : Nat × Nat) : Vector Nat 18 :=
  match noticeKindOf? e.1 with
  | some k => tset levels k.place e.2
  | none => levels

/-- A pending pair is of a kind that the list sets to level 0 (R11). -/
def silenced (es : List (Nat × Nat)) (p : NoticeKind × Nat) : Bool := es.any fun e => e.1 == p.1.code && e.2 == 0

/-- SET LEVELS' effect on a link (R11). -/
def LinkState.withLevels (ls : LinkState) (es : List (Nat × Nat)) : LinkState :=
  { ls with levels := es.foldl writeLevel ls.levels, notices := ls.notices.filter fun p => !silenced es p }.refresh

/-- SET LEVELS at a link (R11). -/
def serveSetLevels (l : Link) (es : List (Nat × Nat)) (s : State) : State × Reply :=
  if levelsOk l es then (s.setLink l ((s.link l).withLevels es), .done []) else (s, .refuse .range)

/-- SET MASK at a link (R12). -/
def serveSetMask (l : Link) (level : Nat) (s : State) : State × Reply :=
  match natIn? 0 15 level with
  | some m => (s.setLink l { s.link l with mask := m }.refresh, .done [])
  | none => (s, .refuse .range)

/-- RACK RESET at the line link: DONE; the reset effect comes when that response has been sent (R13). -/
def serveRackReset (s : State) : State × Reply := (s, .done [])

/-! ### The meanings -/

/-- REQUEST_FRAME (R2): bytes arrive one after another, the last of them completing a frame (log entry 9). -/
def execRequestFrame (l : Link) (bytes : List Byte) (s : State) : Host.Outcome State Fault Refusal :=
  .next (bytes.foldl (fun t x => t.receive l x) s)

/-- LENGTH_FAULT (R1): a length byte arrives. -/
def execLengthFault (l : Link) (length : Byte) (s : State) : Host.Outcome State Fault Refusal :=
  .next (s.receive l length)

/-- RECEIVED_BYTE (R1): a byte arrives. -/
def execReceivedByte (l : Link) (x : Byte) (s : State) : Host.Outcome State Fault Refusal := .next (s.receive l x)

/-- FRAME_TIMEOUT (R1): 20 ms have passed in HEADER or BODY without a byte. -/
def execFrameTimeout (l : Link) (s : State) : Host.Outcome State Fault Refusal :=
  match (s.link l).receiver.partialCode? with
  | some code =>
    if s.reached ((s.link l).lastByteAt + Config.frameTimeout) then
      .next ((s.setReceiver l .hunt).answerUntaken l code .badFrame)
    else .next s
  | none => .next s

/-- RESPONSE_SENT (R4): the first frame of the output list has been sent whole; a waiting response enters. The end of a
RACK RESET response makes the reset effect due (R13). -/
def execResponseSent (l : Link) (s : State) : Host.Outcome State Fault Refusal :=
  match (s.link l).output with
  | [] => .next s
  | frame :: rest =>
    let t := s.setLink l { s.link l with output := rest }.enter
    .next (if l = .line ∧ frame = resetFrame then { t with resetDue := true } else t)

/-- RESET_EFFECT (R13): at power-on, or once the RACK RESET response has been sent in full. -/
def execResetEffect (s : State) : Host.Outcome State Fault Refusal :=
  .next (State.afterReset s.rst.blocks s.rst.mode s.freeSeed s.pending)

/-- TAKE_NOTICE (R10). -/
def execTakeNotice (l : Link) (s : State) : Host.Outcome State Fault Refusal :=
  .next (s.request l (.takeNotice l) (serveTakeNotice l))

/-- SET_LEVELS (R11). -/
def execSetLevels (l : Link) (entries : List (Nat × Nat)) (s : State) : Host.Outcome State Fault Refusal :=
  .next (s.request l (.setLevels l entries) (serveSetLevels l entries))

/-- SET_MASK (R12). -/
def execSetMask (l : Link) (level : Nat) (s : State) : Host.Outcome State Fault Refusal :=
  .next (s.request l (.setMask l level) (serveSetMask l level))

/-- RACK_RESET (R13). -/
def execRackReset (s : State) : Host.Outcome State Fault Refusal := .next (s.request .line .rackReset serveRackReset)

end Sys2Proof.Machine
end

