-- ==== Sys2Proof/Machine/Patch.lean ====
section
/-! DEFINITION. The patch unit, PCU (Section 8): the overlay of fetched fields and the four patch requests. -/

namespace Sys2Proof.Machine

/-! ### Channels -/

/-- All channels, by number. -/
def Pcu.list (q : Pcu) : List Channel := [tget q.channels 0, tget q.channels 1, tget q.channels 2, tget q.channels 3]

/-- The channel is enabled and names the block and the target. -/
def Channel.names (c : Channel) (b : BlockNo) (t : PatchTarget) : Bool := c.enable && c.block == b && c.target == t

/-- The value of a channel read signed, for MAX_TEMP (Table 8-1). -/
def Channel.signed (c : Channel) : Int := signedOf 32 c.value

/-- The value an enabled channel puts in place of a field, none when no channel names it. -/
def patchValue? (channels : List Channel) (b : BlockNo) (t : PatchTarget) : Option Channel :=
  channels.find? (·.names b t)

/-- A field as fetched: the channel's value where one names it, else the stored value. -/
def patchedNat (channels : List Channel) (b : BlockNo) (t : PatchTarget) (stored : Nat) : Nat :=
  ((patchValue? channels b t).map (·.value)).getD stored

/-- An optional stage field as fetched; a patch gives no value to an absent field. -/
def patchedOptNat (channels : List Channel) (b : BlockNo) (t : PatchTarget) : Option Nat → Option Nat
  | some v => some (patchedNat channels b t v)
  | none => none

/-- An optional temperature as fetched. -/
def patchedOptTemp (channels : List Channel) (b : BlockNo) (t : PatchTarget) : Option Int → Option Int
  | some v => some (((patchValue? channels b t).map (·.signed)).getD v)
  | none => none

/-- A limits entry with every channel's threshold for it put in place (R141, R144). -/
def patchedEntry (channels : List Channel) (b : BlockNo) (m : MeasureId) (e : LimitsEntry) : LimitsEntry :=
  { a := patchedNat channels b (.limit m .a) e.a
    b := patchedNat channels b (.limit m .b) e.b
    r := patchedNat channels b (.limit m .r) e.r
    required := e.required }

/-- The channels that act on fetches: all of them in ACTIVE, none in OFF and EDIT (R144). -/
def Pcu.acting (q : Pcu) : List Channel := if q.unit = .active then q.list else []

/-- The overlay of a stage entry of a block (R144). -/
def Pcu.overlayStage (q : Pcu) (b : BlockNo) (index : Nat) (e : StageEntry) : StageEntry :=
  match stepOf? index with
  | some i =>
    { e with
      target := patchedOptNat q.acting b (.stage i .creditTarget) e.target
      limit := patchedOptNat q.acting b (.stage i .deadline) e.limit
      maxTemp := patchedOptTemp q.acting b (.stage i .maxTemp) e.maxTemp }
  | none => e

/-- The overlay of a limits table of a block (R144). -/
def Pcu.overlayLimits (q : Pcu) (b : BlockNo) (table : Vector (Option LimitsEntry) 8) : Vector (Option LimitsEntry) 8 :=
  tof fun m => (tget table m).map (patchedEntry q.acting b m)

/-- The overlay of a block's minimum total credit (R144). -/
def Pcu.overlayMin (q : Pcu) (b : BlockNo) (minCredit : Nat) : Nat := patchedNat q.acting b .minCredit minCredit

/-- A block leaves WRITTEN: while the unit is ACTIVE, every channel naming it is disabled (R145). -/
def Pcu.blockLeft (q : Pcu) (b : BlockNo) : Pcu :=
  if q.unit = .active then
    { q with channels := tof fun i =>
        if (tget q.channels i).block = b then { tget q.channels i with enable := false } else tget q.channels i }
  else q

/-! ### The checks of PATCH APPLY -/

/-- Two enabled channels name the same block and target (R140). -/
def Channel.clashes (c d : Channel) : Bool := c.enable && d.enable && c.block == d.block && c.target == d.target

/-- Some two of the channels clash. -/
def clash : List Channel → Bool
  | [] => false
  | c :: rest => rest.any c.clashes || clash rest

/-- The legal range of a channel's value (Table 8-1). -/
def Channel.inRange (c : Channel) : Bool :=
  match c.target with
  | .limit _ _ => decide (c.value ≤ Config.max32)
  | .stage _ .creditTarget => decide (1 ≤ c.value ∧ c.value ≤ 65535)
  | .stage _ .deadline => decide (1 ≤ c.value ∧ c.value ≤ 10080)
  | .stage _ .maxTemp => decide (Config.minTemp ≤ c.signed ∧ c.signed ≤ Config.maxTemp)
  | .minCredit => decide (c.value ≤ 65535)

/-- A record holds the field a target names (R141). -/
def Recipe.hasField (r : Recipe) : PatchTarget → Bool
  | .limit m _ => (tget r.limits m).isSome
  | .stage i f =>
    match r.stages[i.val]? with
    | some e => match f with
      | .creditTarget => e.target.isSome
      | .deadline => e.limit.isSome
      | .maxTemp => e.maxTemp.isSome
    | none => false
  | .minCredit => true

/-- A limits entry's thresholds stand in order (Table 7-3). -/
def LimitsEntry.ordered (e : LimitsEntry) : Bool := decide (e.a ≤ e.b ∧ e.b ≤ e.r)

/-- The limits entry a LIMIT channel names stands in order with every enabled channel's threshold in place (R141). -/
def Channel.entryOrdered (channels : List Channel) (c : Channel) (r : Recipe) : Bool :=
  match c.target with
  | .limit m _ => match tget r.limits m with
    | some e => (patchedEntry channels c.block m e).ordered
    | none => false
  | _ => true

/-- The stored record of a WRITTEN block. -/
def RecipeBlock.written? (k : RecipeBlock) : Option Recipe := if k.state = .written then k.record else none

/-- One enabled channel's conditions of R141. -/
def Channel.valid (channels : List Channel) (blocks : Vector RecipeBlock 32) (c : Channel) : Bool :=
  match (tget blocks c.block).written? with
  | some r => r.hasField c.target && c.inRange && c.entryOrdered channels r
  | none => false

/-- The enabled channels validate (R141). -/
def Pcu.validates (q : Pcu) (blocks : Vector RecipeBlock 32) : Bool :=
  q.list.all fun c => !c.enable || c.valid q.list blocks

/-! ### Requests -/

/-- The unit status (R138). -/
def Pcu.status (q : Pcu) : List Byte :=
  byteOf q.unit.code :: be16 q.generation ++ [bitsByte (q.list.map (·.enable))]

/-- PATCH EDIT at PCU (R138). -/
def servePatchEdit (s : State) : State × Reply :=
  let q : Pcu := { s.pcu with unit := .edit }
  ({ s with pcu := q }, .done q.status)

/-- PATCH SET at PCU (R139). -/
def servePatchSet (channel enable block kind selector field value : Nat) (s : State) : State × Reply :=
  match channelOf? channel, boolOf? enable, blockOf? block, patchTargetOf? kind selector field,
      natIn? 0 Config.max32 value with
  | some c, some e, some b, some t, some v =>
    if s.pcu.unit ≠ .edit then (s, .refuse .wrongState)
    else ({ s with pcu := { s.pcu with channels := tset s.pcu.channels c ⟨e, b, t, v⟩ } }, .done [])
  | _, _, _, _, _ => (s, .refuse .range)

/-- PATCH APPLY at PCU (R140 to R142). -/
def servePatchApply (s : State) : State × Reply :=
  if s.pcu.unit ≠ .edit then (s, .refuse .wrongState)
  else if clash s.pcu.list then (s, .refuse .conflict)
  else if s.pcu.validates s.rst.blocks = false then (s, .refuse .invalidRecipe)
  else
    let q : Pcu := { s.pcu with unit := .active, generation := min 65535 (s.pcu.generation + 1) }
    ({ s with pcu := q }, .done q.status)

/-- PATCH WITHDRAW at PCU (R143). -/
def servePatchWithdraw (s : State) : State × Reply :=
  let q : Pcu := { s.pcu with unit := .off }
  ({ s with pcu := q }, .done q.status)

/-! ### The meanings -/

/-- PATCH_EDIT (R138). -/
def execPatchEdit (s : State) : Host.Outcome State Fault Refusal := .next (s.request .line .patchEdit servePatchEdit)

/-- PATCH_SET (R139). -/
def execPatchSet (channel enable block kind selector field value : Nat) (s : State) :
    Host.Outcome State Fault Refusal :=
  .next (s.request .line (.patchSet channel enable block kind selector field value)
    (servePatchSet channel enable block kind selector field value))

/-- PATCH_APPLY (R140). -/
def execPatchApply (s : State) : Host.Outcome State Fault Refusal := .next (s.request .line .patchApply servePatchApply)

/-- PATCH_WITHDRAW (R143). -/
def execPatchWithdraw (s : State) : Host.Outcome State Fault Refusal :=
  .next (s.request .line .patchWithdraw servePatchWithdraw)

end Sys2Proof.Machine
end

