-- ==== Sys2Proof/Machine/Power.lean ====
section
/-! DEFINITION. The power sequencer, PSQ (3.4 to 3.6): POWER ON, POWER OFF, SET POWER, the orders it serves, its timers and
its reports. -/

namespace Sys2Proof.Machine

/-! ### PSQ's own operations -/

/-- PSQ's record of a slot. -/
def State.power (s : State) (i : Slot) : PowerSlot := tget s.psq.slots i

/-- A slot enters SPINUP: off the head of the queue, output on, a lane taken, its timer started with the spin-up time in
force (R38). -/
def Psq.startSlot (p : Psq) (osc : Nat) (i : Slot) (rest : List Slot) : Psq :=
  { p with slots := tset p.slots i ⟨.spinUp, true, some (osc + p.upTime * 1000)⟩, queue := rest, lanes := p.lanes + 1 }

/-- PSQ starts spin-ups from the head of the queue while lanes in use are below the budget (R38). The second part of the
answer lists the slots started, in order. -/
def Psq.startAll (osc : Nat) : List Slot → Psq → Psq × List Slot
  | [], p => (p, [])
  | i :: rest, p =>
    if p.lanes < p.budget then
      let q := Psq.startAll osc rest (p.startSlot osc i rest)
      (q.1, i :: q.2)
    else (p, [])

/-- PSQ looks at the start conditions, and reports each start to SSQ (R38). -/
def State.lookAtQueue (s : State) : State :=
  let q := Psq.startAll s.rck.osc s.psq.queue s.psq
  q.2.foldl (fun t i => t.giveReport i .started) { s with psq := q.1 }

/-- A slot's power is cut and its spin-down timed with the spin-down time in force (R42, R44). -/
def Psq.cut (p : Psq) (osc : Nat) (i : Slot) : Psq :=
  { p with slots := tset p.slots i ⟨.spinDown, false, some (osc + p.downTime * 1000)⟩ }

/-- A slot's power record back at OFF (R46). -/
def Psq.putOff (p : Psq) (i : Slot) : Psq := { p with slots := tset p.slots i ⟨.off, false, none⟩ }

/-- One lane freed. -/
def Psq.freeLane (p : Psq) : Psq := { p with lanes := p.lanes - 1 }

/-- A slot taken out of the queue, wherever it stands; the later ones keep their order (R42). -/
def Psq.unqueue (p : Psq) (i : Slot) : Psq := { p with queue := p.queue.erase i }

/-- PSQ serves a queue order: the slot joins the tail, its phase becomes QUEUED (R37). A slot that already holds power or a
place keeps it (log entry 17). -/
def Psq.enqueue (p : Psq) (i : Slot) : Psq :=
  if (tget p.slots i).phase = .off then
    { p with slots := tset p.slots i ⟨.queued, false, none⟩, queue := p.queue ++ [i] }
  else p

/-- The two outcomes of a power-off order (R42). -/
inductive PowerOutcome where
  | withdrawn
  | spinningDown
  deriving DecidableEq, Repr

/-- What PSQ does at a power-off order, by phase (R42). -/
def Psq.servePowerOff (p : Psq) (osc : Nat) (i : Slot) : Psq × PowerOutcome :=
  match (tget p.slots i).phase with
  | .queued => ((p.unqueue i).putOff i, .withdrawn)
  | .spinUp => ((p.cut osc i).freeLane, .spinningDown)
  | .on => (p.cut osc i, .spinningDown)
  | .off => (p, .withdrawn)
  | .spinDown => (p, .spinningDown)

/-- What PSQ does at a spin-down order, by phase (R44). -/
def Psq.serveSpinDown (p : Psq) (osc : Nat) (i : Slot) : Psq :=
  match (tget p.slots i).phase with
  | .spinUp => (p.cut osc i).freeLane
  | .on => p.cut osc i
  | _ => p

/-- What PSQ does at a release order, by phase (R46). -/
def Psq.serveRelease (p : Psq) (i : Slot) : Psq :=
  match (tget p.slots i).phase with
  | .queued => (p.unqueue i).putOff i
  | .spinUp => (p.putOff i).freeLane
  | .on => p.putOff i
  | .spinDown => p.putOff i
  | .off => p

/-! ### Orders reaching PSQ -/

/-- SSQ takes the outcome of a power-off order: "withdrawn" makes the slot LOADED, "spinning down" makes it SPINDOWN with
spin-down exit LOADED (R42). A slot that has meanwhile left the three states of R41 is left as it is (R50, log entry 4). -/
def State.takeOutcome (s : State) (i : Slot) (o : PowerOutcome) : State :=
  let r := s.slot i
  if r.state = .spinUpWait ∨ r.state = .spinUp ∨ r.state = .ready then
    match o with
    | .withdrawn => s.putSlot i { r with state := .loaded }
    | .spinningDown => s.putSlot i { r with state := .spinDown, exit := .loaded }
  else s

/-- The answer to the POWER OFF that waits on a power-off order (R41). -/
def State.answerPowerOff (s : State) (forRequest : Bool) : State :=
  if forRequest then s.respond .test 0x11 .done [] else s

/-- PSQ serves a power-off order, SSQ takes its outcome and the waiting POWER OFF is answered (R42). -/
def State.runPowerOff (s : State) (i : Slot) (forRequest : Bool) : State :=
  let q := s.psq.servePowerOff s.rck.osc i
  (({ s with psq := q.1 }.lookAtQueue).takeOutcome i q.2).answerPowerOff forRequest

/-- PSQ serves a spin-down order (R44). -/
def State.runSpinDown (s : State) (i : Slot) : State :=
  { s with psq := s.psq.serveSpinDown s.rck.osc i }.lookAtQueue

/-- PSQ serves a release order (R46). -/
def State.runRelease (s : State) (i : Slot) : State :=
  { s with psq := s.psq.serveRelease i }.lookAtQueue

/-- PSQ serves one order for a slot. -/
def State.runOrder (s : State) (i : Slot) : PowerOrder → State
  | .powerOff q => s.runPowerOff i q
  | .spinDown => s.runSpinDown i
  | .release => s.runRelease i

/-- The slot's mail without its oldest order. -/
def State.dropOrder (s : State) (i : Slot) : State :=
  s.setMail i { s.mailOf i with orders := (s.mailOf i).orders.tail }

/-- The slot's mail without its oldest report. -/
def State.dropReport (s : State) (i : Slot) : State :=
  s.setMail i { s.mailOf i with reports := (s.mailOf i).reports.tail }

/-- PSQ serves a list of orders for a slot, in the order given. -/
def State.runOrders (i : Slot) : List PowerOrder → State → State
  | [], s => s
  | o :: rest, s => State.runOrders i rest ((s.dropOrder i).runOrder i o)

/-! ### Requests -/

/-- POWER ON at SSQ and PSQ (R37). The queue order reaches PSQ after the orders SSQ gave before it for the slot, which PSQ
serves first (3.4, log entry 13). -/
def servePowerOn (n : Nat) (s : State) : State × Reply :=
  match slotOf? n with
  | none => (s, .refuse .range)
  | some i =>
    if (s.slot i).state ≠ .loaded then (s, .refuse .wrongState)
    else if (s.slot i).closed = false then (s, .refuse .wrongState)
    else
      let t := State.runOrders i (s.mailOf i).orders s
      let u := t.putSlot i { t.slot i with state := .spinUpWait }
      ({ u with psq := u.psq.enqueue i }.lookAtQueue, .done [])

/-- POWER OFF at SSQ: a power-off order, whose outcome answers the request (R41). -/
def servePowerOff (n : Nat) (s : State) : State × Reply :=
  match slotOf? n with
  | none => (s, .refuse .range)
  | some i =>
    let r := s.slot i
    if r.state = .spinUpWait ∨ r.state = .spinUp ∨ r.state = .ready then (s.giveOrder i (.powerOff true), .later)
    else (s, .refuse .wrongState)

/-- SET POWER at PSQ (R47). -/
def serveSetPower (budget upTime downTime : Nat) (s : State) : State × Reply :=
  match natIn? 1 8 budget, natIn? 2 30 upTime, natIn? 2 30 downTime with
  | some b, some u, some d =>
    ({ s with psq := { s.psq with budget := b, upTime := u, downTime := d } }.lookAtQueue, .done [])
  | _, _, _ => (s, .refuse .range)

/-! ### The meanings -/

/-- POWER_ON (R37). -/
def execPowerOn (slot : Nat) (s : State) : Host.Outcome State Fault Refusal :=
  .next (s.request .test (.powerOn slot) (servePowerOn slot))

/-- POWER_OFF (R41). -/
def execPowerOff (slot : Nat) (s : State) : Host.Outcome State Fault Refusal :=
  .next (s.request .test (.powerOff slot) (servePowerOff slot))

/-- SET_POWER (R47). -/
def execSetPower (budget upTime downTime : Nat) (s : State) : Host.Outcome State Fault Refusal :=
  .next (s.request .line (.setPower budget upTime downTime) (serveSetPower budget upTime downTime))

/-- POWER_OFF_ORDER (R42): the slot's oldest order on its way, if it is a power-off order, reaches PSQ. -/
def execPowerOffOrder (i : Slot) (s : State) : Host.Outcome State Fault Refusal :=
  match (s.mailOf i).orders.head? with
  | some (.powerOff q) => .next ((s.dropOrder i).runPowerOff i q)
  | _ => .next s

/-- SPIN_DOWN_ORDER (R44): the slot's oldest order on its way, if it is a spin-down order, reaches PSQ. -/
def execSpinDownOrder (i : Slot) (s : State) : Host.Outcome State Fault Refusal :=
  match (s.mailOf i).orders.head? with
  | some .spinDown => .next ((s.dropOrder i).runSpinDown i)
  | _ => .next s

/-- RELEASE_ORDER (R46): the slot's oldest order on its way, if it is a release order, reaches PSQ. -/
def execReleaseOrder (i : Slot) (s : State) : Host.Outcome State Fault Refusal :=
  match (s.mailOf i).orders.head? with
  | some .release => .next ((s.dropOrder i).runRelease i)
  | _ => .next s

/-- SPIN_UP_TIMER_EXPIRY (R39): the slot's power timer has run out in SPINUP. -/
def execSpinUpTimerExpiry (i : Slot) (s : State) : Host.Outcome State Fault Refusal :=
  if (s.power i).phase = .spinUp ∧ s.timerDue (s.power i).timer then
    .next (({ s with psq := { s.psq with slots := tset s.psq.slots i ⟨.on, true, none⟩ }.freeLane }.giveReport i
      .spunUp).lookAtQueue)
  else .next s

/-- SPIN_DOWN_TIMER_EXPIRY (R45): the slot's power timer has run out in SPINDOWN. -/
def execSpinDownTimerExpiry (i : Slot) (s : State) : Host.Outcome State Fault Refusal :=
  if (s.power i).phase = .spinDown ∧ s.timerDue (s.power i).timer then
    .next ({ s with psq := s.psq.putOff i }.giveReport i .spunDown)
  else .next s

/-- SPIN_UP_START_REPORT (R38): the slot's oldest report, if it is a spin-up start, reaches SSQ. -/
def execSpinUpStartReport (i : Slot) (s : State) : Host.Outcome State Fault Refusal :=
  match (s.mailOf i).reports.head? with
  | some .started =>
    if (s.slot i).state = .spinUpWait then
      .next ((s.dropReport i).putSlot i { s.slot i with state := .spinUp })
    else .next (s.dropReport i)
  | _ => .next s

/-- SPIN_UP_EXPIRY (R39): the slot's oldest report, if it is a spin-up expiry, reaches SSQ. -/
def execSpinUpExpiry (i : Slot) (s : State) : Host.Outcome State Fault Refusal :=
  match (s.mailOf i).reports.head? with
  | some .spunUp =>
    if (s.slot i).state = .spinUp then
      .next (((s.dropReport i).putSlot i { s.slot i with state := .ready }).post .spunUp i.val)
    else .next (s.dropReport i)
  | _ => .next s

end Sys2Proof.Machine
end

