-- ==== Sys2Proof/Machine/Totes.lean ====
section
/-! DEFINITION. The tote table, TTB (Section 10): reservations, wait queues, filled entries, and the tote requests. -/

namespace Sys2Proof.Machine

/-! ### Tote records -/

def Position.isEmpty : Position → Bool
  | .empty => true
  | _ => false

def Position.isReserved : Position → Bool
  | .reserved _ => true
  | _ => false

def Position.isFilled : Position → Bool
  | .filled _ => true
  | _ => false

/-- The position is reserved for the slot. -/
def Position.holds (p : Position) (i : Slot) : Bool :=
  match p with
  | .reserved j => j == i
  | _ => false

/-- The place of the lowest-numbered empty position, counted from 0 (R161). -/
def ToteBody.lowestEmpty? (b : ToteBody) : Option Nat := b.positions.findIdx? Position.isEmpty

/-- The place of the position reserved for a slot, counted from 0. -/
def ToteBody.placeOf? (b : ToteBody) (i : Slot) : Option Nat := b.positions.findIdx? (·.holds i)

/-- The counts of filled and reserved positions. -/
def ToteBody.filled (b : ToteBody) : Nat := b.positions.countP Position.isFilled

def ToteBody.reserved (b : ToteBody) : Nat := b.positions.countP Position.isReserved

/-- The record with one position replaced. -/
def ToteBody.put (b : ToteBody) (place : Nat) (p : Position) : ToteBody := { b with positions := b.positions.set place p }

/-- The body of an OPEN record. -/
def Tote.open? : Tote → Option ToteBody
  | .opened b => some b
  | _ => none

/-- The body of a record that is not FREE. -/
def Tote.body? : Tote → Option ToteBody
  | .opened b => some b
  | .closed b => some b
  | .free => none

/-- TTB's record of a number. -/
def State.tote (s : State) (t : ToteNo) : Tote := tget s.ttb.totes t

/-- The state with one tote record replaced. -/
def State.setTote (s : State) (t : ToteNo) (r : Tote) : State := { s with ttb := { s.ttb with totes := tset s.ttb.totes t r } }

/-- A bin's dispatch wait queue. -/
def State.waitQueue (s : State) (bin : Bin) : List Slot := tget s.ttb.queues bin.queue

/-- The state with a bin's wait queue replaced. -/
def State.setQueue (s : State) (bin : Bin) (q : List Slot) : State :=
  { s with ttb := { s.ttb with queues := tset s.ttb.queues bin.queue q } }

/-- The OPEN record of a bin. -/
def Ttb.openFor? (q : Ttb) (bin : Bin) : Option (ToteNo × ToteBody) :=
  allTotes.findSome? fun t =>
    match (tget q.totes t).open? with
    | some body => if body.bin = bin then some (t, body) else none
    | none => none

/-- The reservation of a slot: the OPEN record and the place of its position, counted from 0 (R162). -/
def Ttb.reservation? (q : Ttb) (i : Slot) : Option (ToteNo × ToteBody × Nat) :=
  allTotes.findSome? fun t =>
    match (tget q.totes t).open? with
    | some body => (body.placeOf? i).map fun p => (t, body, p)
    | none => none

/-- A FREE record with the lowest number (R166). -/
def Ttb.firstFree? (q : Ttb) : Option ToteNo :=
  allTotes.find? fun t => match tget q.totes t with
    | .free => true
    | _ => false

/-! ### Dispatch and reservation -/

/-- TTB reserves the lowest-numbered empty position of the bin's OPEN record for a slot, if there is one: the slot becomes
UNLOAD and UNLOAD_READY is posted in the same event (R161). -/
def State.reserve? (s : State) (bin : Bin) (i : Slot) : Option State :=
  (s.ttb.openFor? bin).bind fun (t, body) =>
    body.lowestEmpty?.map fun p =>
      ((s.setTote t (.opened (body.put p (.reserved i)))).putSlot i { s.slot i with state := .unload }).post
        .unloadReady i.val

/-- The slot joins the tail of its bin's wait queue, becomes DISPATCH_WAIT, and DISPATCH_STALL is posted (R161). -/
def State.stall (s : State) (bin : Bin) (i : Slot) : State :=
  ((s.setQueue bin (s.waitQueue bin ++ [i])).putSlot i { s.slot i with state := .dispatchWait }).post .dispatchStall i.val

/-- SSQ sends a graded drive to dispatch, and TTB serves the order (R74, R161). -/
def State.dispatch (s : State) (i : Slot) : State :=
  match (s.slot i).grade with
  | some g => (s.reserve? g.1 i).getD (s.stall g.1 i)
  | none => s

/-- TTB serves a wait queue from its head while the bin's OPEN record has an empty position (R166): the state after it and
the number of reservations made. -/
def State.serveQueue (bin : Bin) : List Slot → State → State × Nat
  | [], s => (s, 0)
  | i :: rest, s =>
    match (s.setQueue bin rest).reserve? bin i with
    | some t =>
      let q := State.serveQueue bin rest t
      (q.1, q.2 + 1)
    | none => (s, 0)

/-- TTB releases the reservation of a slot whose drive is lost: the position becomes empty, and the head of the bin's wait
queue takes it at once (R165). -/
def State.releaseReservation (s : State) (i : Slot) : State :=
  match s.ttb.reservation? i with
  | some (t, body, p) =>
    let u := s.setTote t (.opened (body.put p .empty))
    match u.waitQueue body.bin with
    | [] => u
    | j :: rest => ((u.setQueue body.bin rest).reserve? body.bin j).getD u
  | none => s

/-- TTB removes a slot from the wait queue that holds it, wherever it stands (R163). -/
def State.leaveQueue (s : State) (i : Slot) : State :=
  match (s.slot i).grade with
  | some g => s.setQueue g.1 ((s.waitQueue g.1).erase i)
  | none => s

/-- The filled entry of a placed unload (R164, Table 10-2). -/
def State.entryFor (s : State) (i : Slot) : FilledEntry :=
  let r := s.slot i
  let note := (tget s.ttb.notes i).getD (0, 0)
  let g := r.grade.getD (.a, .none)
  { serial := r.serial, slot := i, recipeId := note.1, revision := note.2, patchGen := r.patchGen.getD 0, bin := g.1,
    reason := g.2, credit := r.total / Config.unitsPerMinute, finishedAt := r.finishedAt, placedAt := s.now }

/-- TTB fills the position reserved for a slot; TOTE_FULL is posted when that fills the record (R164). -/
def State.fillReservation (s : State) (i : Slot) : State :=
  match s.ttb.reservation? i with
  | some (t, body, p) =>
    let body' := body.put p (.filled (s.entryFor i))
    let u := s.setTote t (.opened body')
    if body'.filled = body'.positions.length then u.post .toteFull t.val else u
  | none => s

/-- A serial is held by a filled entry of a record that is not FREE (R53). -/
def Tote.holdsSerial (t : Tote) (serial : List Byte) : Bool :=
  match t.body? with
  | some b => b.positions.any fun p => match p with
    | .filled e => e.serial == some serial
    | _ => false
  | none => false

/-! ### Requests -/

/-- OPEN TOTE at TTB (R166). -/
def serveOpenTote (label bin capacity : Nat) (s : State) : State × Reply :=
  match natIn? 0 Config.max32 label, binOf? bin, natIn? 1 40 capacity with
  | some n, some g, some c =>
    if (s.ttb.openFor? g).isSome then (s, .refuse .wrongState)
    else match s.ttb.firstFree? with
      | none => (s, .refuse .full)
      | some t =>
        let u := s.setTote t (.opened ⟨n, g, List.replicate c .empty⟩)
        let q := State.serveQueue g (u.waitQueue g) u
        (q.1, .done [byteOf t.val, byteOf q.2])
  | _, _, _ => (s, .refuse .range)

/-- CLOSE TOTE at TTB (R167). -/
def serveCloseTote (record : Nat) (s : State) : State × Reply :=
  match toteOf? record with
  | none => (s, .refuse .range)
  | some t =>
    match s.tote t with
    | .opened body =>
      if body.reserved ≠ 0 then (s, .refuse .busy)
      else (s.setTote t (.closed body), .done [byteOf body.filled])
    | _ => (s, .refuse .wrongState)

/-- RELEASE TOTE at TTB (R168). -/
def serveReleaseTote (record : Nat) (s : State) : State × Reply :=
  match toteOf? record with
  | none => (s, .refuse .range)
  | some t =>
    match s.tote t with
    | .closed _ => (s.setTote t .free, .done [])
    | _ => (s, .refuse .wrongState)

/-- The state code of a record that is not FREE (Table 1-9). -/
def Tote.stateCode : Tote → Nat
  | .opened _ => 1
  | .closed _ => 2
  | .free => 0

/-- A position's byte in the summary (R17). -/
def Position.summaryByte : Position → Byte
  | .empty => 0xFF#8
  | .filled _ => 0xFE#8
  | .reserved i => byteOf i.val

/-- The summary of a record (R17, Table 1-10). -/
def toteSummary (t : ToteNo) (r : Tote) (b : ToteBody) : List Byte :=
  [byteOf t.val, byteOf r.stateCode] ++ be32 b.label ++
    [byteOf b.bin.code, byteOf b.positions.length, byteOf b.filled, byteOf b.reserved] ++
    b.positions.map Position.summaryByte

/-- The serial characters of a filled entry, none when the serial is absent. -/
def FilledEntry.characters (e : FilledEntry) : List Byte := (e.serial.getD []).take 20

/-- The bytes of a filled entry before the serial characters (Table 1-10, bytes 4 to 8). -/
def FilledEntry.head (e : FilledEntry) (t : ToteNo) (number : Nat) : List Byte :=
  [byteOf t.val, byteOf number, 2#8, byteOf e.slot.val, byteOf e.characters.length]

/-- The bytes of a filled entry after the serial characters (Table 1-10, bytes 29 to 52). -/
def FilledEntry.data (e : FilledEntry) : List Byte :=
  be16 e.recipeId ++ [byteOf e.revision] ++ be16 e.patchGen ++
    [byteOf e.bin.code, byteOf e.reason.code, byteOf e.reason.argument] ++ be32 e.credit ++
    optStampBytes e.finishedAt ++ stampBytes e.placedAt

/-- The entry of a filled position (R17, Table 1-10). DESIGN CHOICE (log entry 30): the bytes after the serial characters, of which
the manual says nothing, are free values. -/
def FilledEntry.bytes (e : FilledEntry) (t : ToteNo) (number : Nat) : List Byte :=
  let known := e.head t number ++ e.characters ++ e.data
  e.head t number ++ e.characters ++
    (List.range (20 - e.characters.length)).map (Config.unusedSerialByte known) ++ e.data

/-- One position's entry (R17, Table 1-10); `number` counts from 1. -/
def positionEntry (t : ToteNo) (number : Nat) (p : Position) : List Byte :=
  match p with
  | .empty => [byteOf t.val, byteOf number, 0#8, 255#8] ++ List.replicate 45 0#8
  | .reserved i => [byteOf t.val, byteOf number, 1#8, byteOf i.val] ++ List.replicate 45 0#8
  | .filled e => e.bytes t number

/-- READ TOTE at TTB (R169). -/
def serveReadTote (record position : Nat) (s : State) : State × Reply :=
  match toteOf? record, natIn? 0 40 position with
  | some t, some n =>
    match (s.tote t).body? with
    | none => (s, .refuse .wrongState)
    | some body =>
      if n = 0 then (s, .done (toteSummary t (s.tote t) body))
      else match body.positions[n - 1]? with
        | some p => (s, .done (positionEntry t n p))
        | none => (s, .refuse .range)
  | _, _ => (s, .refuse .range)

/-! ### The meanings -/

/-- OPEN_TOTE (R166). -/
def execOpenTote (label bin capacity : Nat) (s : State) : Host.Outcome State Fault Refusal :=
  .next (s.request .line (.openTote label bin capacity) (serveOpenTote label bin capacity))

/-- CLOSE_TOTE (R167). -/
def execCloseTote (record : Nat) (s : State) : Host.Outcome State Fault Refusal :=
  .next (s.request .line (.closeTote record) (serveCloseTote record))

/-- RELEASE_TOTE (R168). -/
def execReleaseTote (record : Nat) (s : State) : Host.Outcome State Fault Refusal :=
  .next (s.request .line (.releaseTote record) (serveReleaseTote record))

/-- READ_TOTE (R169). -/
def execReadTote (l : Link) (record position : Nat) (s : State) : Host.Outcome State Fault Refusal :=
  .next (s.request l (.readTote l record position) (serveReadTote record position))

end Sys2Proof.Machine
end

