-- ==== Sys2Proof/Machine/Quiet.lean ====
section
/-! DEFINITION. The quiet access controller, QAC (Section 5): zones, access records and hold counts, the handler's requests,
QUIET and SET QUIET, and SSQ's service of the quiet and disturbance orders. -/

namespace Sys2Proof.Machine

/-! ### Zones (R77) -/

/-- The shelf of a slot, 0 to 3, and its column, 0 to 5 (Conventions, "Slot numbers"). -/
def shelf (i : Slot) : Nat := i.val / 6

def column (i : Slot) : Nat := i.val % 6

/-- Two numbers differ by one. -/
def adjacent (a b : Nat) : Bool := decide (a + 1 = b) || decide (b + 1 = a)

/-- Slot j lies in the zone of a target (R77). -/
def inZone (mode : ZoneMode) (target j : Slot) : Bool :=
  (column j == column target && adjacent (shelf j) (shelf target)) ||
    (shelf j == shelf target && match mode with
      | .near => adjacent (column j) (column target)
      | .shelf => j != target)

/-- The zone of a target, in slot order (R77). -/
def zoneOf (mode : ZoneMode) (target : Slot) : List Slot := allSlots.filter (inZone mode target)

/-! ### Access records and hold counts -/

/-- QAC's record of an id. -/
def State.access (s : State) (r : Fin 2) : AccessRecord := tget s.qac.records r

/-- The state with one access record replaced. -/
def State.setAccess (s : State) (r : Fin 2) (a : AccessRecord) : State :=
  { s with qac := { s.qac with records := tset s.qac.records r a } }

/-- What a record in PENDING or GRANTED holds. -/
def AccessRecord.use? : AccessRecord → Option AccessUse
  | .free => none
  | .pending u => some u
  | .granted u _ _ => some u

def AccessRecord.isPending : AccessRecord → Bool
  | .pending _ => true
  | _ => false

/-- The record's target is the slot, in PENDING or GRANTED (R80). -/
def AccessRecord.targets (r : AccessRecord) (i : Slot) : Bool :=
  match r.use? with
  | some u => u.target == i
  | none => false

/-- The state a target must be in for an action (R80). -/
def Action.requires : Action → SlotState
  | .load => .empty
  | .unload => .unload

/-- The hold count of each slot of a zone rises by one (R79). -/
def State.raiseHolds (s : State) (zone : List Slot) : State :=
  { s with qac := { s.qac with holds := tof fun i => if i ∈ zone then s.holdCount i + 1 else s.holdCount i } }

/-- The hold count of each slot of a zone falls by one, and each slot whose count thereby reaches 0 is given a RELEASE
order (R79, R93). -/
def State.lowerHolds (s : State) (zone : List Slot) : State :=
  { s with
    qac := { s.qac with holds := tof fun i => if i ∈ zone then s.holdCount i - 1 else s.holdCount i }
    mail := tof fun i =>
      if i ∈ zone ∧ s.holdCount i - 1 = 0 then { s.mailOf i with releases := (s.mailOf i).releases + 1 } else s.mailOf i }

/-- An access record becomes FREE, its holds released (R78, R93). -/
def State.freeAccess (s : State) (r : Fin 2) : State :=
  match (s.access r).use? with
  | some u => (s.lowerHolds u.zone).setAccess r .free
  | none => s

/-- No slot of a zone blocks (R82). -/
def State.zoneClear (s : State) (zone : List Slot) : Bool := zone.all fun j => !(s.slot j).exposed

/-- The target of an access stands in the state its action requires (R80, R85). -/
def State.targetStands (s : State) (u : AccessUse) : Bool := (s.slot u.target).state == u.action.requires

/-- A presence change of the slot has been served at one of SSQ and QAC and is still on its way to the other (R94). -/
def State.halfServed (s : State) (i : Slot) : Bool := (s.mailOf i).presenceToSsq != (s.mailOf i).presenceToQac

/-- An access ends before its grant: its record becomes FREE, with ACCESS_ENDED (R85, R86). -/
def State.endPending (s : State) (r : Fin 2) (u : AccessUse) : State :=
  (s.freeAccess r).post .accessEnded u.target.val

/-- A record becomes GRANTED, with the presence at grant, the hold-limit timer and GRANT (R82). -/
def State.grant (s : State) (r : Fin 2) (u : AccessUse) : State :=
  (s.setAccess r (.granted { u with timer := some (s.inSeconds s.qac.limit) } (s.slot u.target).present false)).post
    .grant u.target.val

/-- The grant condition evaluated for one record: PENDING with no zone slot blocking becomes GRANTED (R82). One whose target
has left the state its action requires is freed instead, as the report of that change, still on its way, would do (R85, log
entry 23). -/
def State.evaluate (s : State) (r : Fin 2) : State :=
  match s.access r with
  | .pending u =>
    if s.zoneClear u.zone then if s.targetStands u then s.grant r u else s.endPending r u
    else s
  | _ => s

/-- A PENDING record whose target has left the state its action requires is freed with ACCESS_ENDED (R85). -/
def State.checkTarget (s : State) (r : Fin 2) (i : Slot) : State :=
  match s.access r with
  | .pending u => if u.target = i ∧ s.targetStands u = false then s.endPending r u else s
  | _ => s

/-- A report of slot i would grant the record while a presence change of its target is half served. No record enters GRANTED
for a target then (R94), so the report waits (log entry 23). -/
def State.grantWaits (s : State) (r : Fin 2) (i : Slot) : Bool :=
  match s.access r with
  | .pending u => decide (i ∈ u.zone) && s.zoneClear u.zone && s.targetStands u && s.halfServed u.target
  | _ => false

/-- A report of slot i at one record: the target check, then the grant condition if the zone holds the slot (R84). -/
def State.reportAt (s : State) (r : Fin 2) (i : Slot) : State :=
  let t := s.checkTarget r i
  match (t.access r).use? with
  | some u => if i ∈ u.zone then t.evaluate r else t
  | none => t

/-- ASK orders to the zone slots that SSQ shows RUNNING a sensitive, suspendable stage in NORMAL (R81). -/
def State.askZone (s : State) (zone : List Slot) : State :=
  { s with mail := tof fun i =>
      if i ∈ zone ∧ (s.slot i).askable then { s.mailOf i with asks := (s.mailOf i).asks + 1 } else s.mailOf i }

/-- Disturbance orders to each slot of a zone (R95). -/
def State.disturbZone (s : State) (zone : List Slot) : State :=
  { s with mail := tof fun i =>
      if i ∈ zone then { s.mailOf i with disturbances := (s.mailOf i).disturbances + 1 } else s.mailOf i }

/-- The FREE record with the lower id (R81). -/
def State.freeRecord? (s : State) : Option (Fin 2) :=
  if s.access 0 = .free then some 0 else if s.access 1 = .free then some 1 else none

/-! ### The handler's requests -/

/-- The tote record and position of a slot's reservation in the ACCESS REQUEST response (R81): 255 and 0 for a load. -/
def State.accessPlace (s : State) (i : Slot) (a : Action) : List Byte :=
  match a, s.ttb.reservation? i with
  | .unload, some (t, _, p) => [byteOf t.val, byteOf (p + 1)]
  | _, _ => [255#8, 0#8]

/-- A record's state code in responses: PENDING (1) or GRANTED (2) (R81). -/
def AccessRecord.stateCode : AccessRecord → Nat
  | .free => 0
  | .pending _ => 1
  | .granted _ _ _ => 2

/-- A record taken for an access: PENDING, holds raised, ASK orders given, the grant condition evaluated (R81). -/
def State.takeAccess (s : State) (r : Fin 2) (i : Slot) (a : Action) : State :=
  let zone := zoneOf s.qac.mode i
  let t := s.setAccess r (.pending ⟨i, a, zone, s.now, some (s.inSeconds s.qac.timeout)⟩)
  ((t.raiseHolds zone).askZone zone).evaluate r

/-- ACCESS REQUEST at QAC (R80, R81). One that would be granted at once while a presence change of its target is half served
stays held (R94, log entry 23). -/
def serveAccessRequest (slot action : Nat) (s : State) : State × Reply :=
  match slotOf? slot, actionOf? action with
  | some i, some a =>
    if (s.slot i).state ≠ a.requires then (s, .refuse .wrongState)
    else if (s.access 0).targets i ∨ (s.access 1).targets i then (s, .refuse .wrongState)
    else match s.freeRecord? with
      | none => (s, .refuse .full)
      | some r =>
        if s.zoneClear (zoneOf s.qac.mode i) ∧ s.halfServed i then (s, .notYet)
        else
          let t := s.takeAccess r i a
          (t, .done ([byteOf r.val, byteOf (t.access r).stateCode] ++ s.accessPlace i a))
  | _, _ => (s, .refuse .range)

/-- ACCESS CANCEL at QAC (R87). -/
def serveAccessCancel (record : Nat) (s : State) : State × Reply :=
  match recordOf? record with
  | none => (s, .refuse .range)
  | some r =>
    if (s.access r).isPending then (s.freeAccess r, .done []) else (s, .refuse .wrongState)

/-- A slot record cleared (R49): presence and latch stay, every other field takes its cleared value. -/
def SlotRecord.cleared (r : SlotRecord) : SlotRecord := { SlotRecord.reset with present := r.present, closed := r.closed }

/-- SSQ clears a slot record and the slot becomes EMPTY: its recipe reference is released, its watch list entry and its
dispatch note become absent (R49, R27, R160). -/
def State.clearSlot (s : State) (i : Slot) : State :=
  ((((s.releaseRefOf (s.slot i)).arm i none).setNote i none).putSlot i (s.slot i).cleared)

/-- SSQ serves a load-placed order (R52). -/
def State.loadPlaced (s : State) (i : Slot) : State :=
  if (s.slot i).state = .empty then
    (s.putSlot i { s.slot i with state := .loaded, ungranted := false, loadedAt := some s.now }).post .loaded i.val
  else s

/-- SSQ serves an unload-placed order: TTB fills the reserved position, and the record is cleared (R71). -/
def State.unloadPlaced (s : State) (i : Slot) : State :=
  if (s.slot i).state = .unload then (s.fillReservation i).clearSlot i else s

/-- The response to an ACCESS DONE that ends the access: the overrun flag and the start time (R89). -/
def accessDoneBytes (u : AccessUse) (overrun : Bool) : List Byte := flagByte overrun :: stampBytes u.start

/-- A GRANTED access ends, if the fields of its target allow it (R90, R91, R92). -/
def State.endAccess (s : State) (r : Fin 2) (u : AccessUse) (presentAtGrant overrun placed : Bool) : State × Reply :=
  let t := s.slot u.target
  match placed, u.action with
  | true, .load =>
    if t.seated then ((s.loadPlaced u.target).freeAccess r, .done (accessDoneBytes u overrun))
    else (s, .refuse .wrongState)
  | true, .unload =>
    if t.present then (s, .refuse .wrongState)
    else ((s.unloadPlaced u.target).freeAccess r, .done (accessDoneBytes u overrun))
  | false, _ =>
    if t.present = presentAtGrant then (s.freeAccess r, .done (accessDoneBytes u overrun))
    else (s, .refuse .wrongState)

/-- Every accepted presence change of a slot that SIF has delivered has been served at SSQ and at QAC (R89). -/
def State.presenceServed (s : State) (i : Slot) : Bool :=
  (s.mailOf i).presenceToSsq.isEmpty && (s.mailOf i).presenceToQac.isEmpty

/-- The outcome of ACCESS DONE: PLACED (0) or ABANDONED (1) (R89). -/
def placedOf? : Nat → Option Bool
  | 0 => some true
  | 1 => some false
  | _ => none

/-- ACCESS DONE at QAC: it waits until the target's presence changes have been served (R89). DESIGN CHOICE (log entry 26): the
presence and the latch that R90 to R92 read "as they stand when the request reaches QAC" are read when the wait is over. -/
def serveAccessDone (record outcome : Nat) (s : State) : State × Reply :=
  match recordOf? record, placedOf? outcome with
  | some r, some placed =>
    match s.access r with
    | .granted u presentAtGrant overrun =>
      if s.presenceServed u.target then s.endAccess r u presentAtGrant overrun placed else (s, .notYet)
    | _ => (s, .refuse .wrongState)
  | _, _ => (s, .refuse .range)

/-- QUIET at QAC, with the QUIET order it gives SSQ (R59, R83). -/
def serveQuiet (slot : Nat) (s : State) : State × Reply :=
  match slotOf? slot with
  | none => (s, .refuse .range)
  | some i =>
    if (s.slot i).runsSensitive then
      match (s.slot i).quiet with
      | .asked => (s.putSlot i { s.slot i with quiet := .quiet }, .done [])
      | .quiet => (s, .done [])
      | .normal => (s, .refuse .tooLate)
    else (s, .refuse .tooLate)

/-- SET QUIET at QAC (R96). -/
def serveSetQuiet (mode timeout limit : Nat) (s : State) : State × Reply :=
  match zoneModeOf? mode, natIn? 1 60 timeout, natIn? 5 120 limit with
  | some m, some t, some h =>
    if s.access 0 = .free ∧ s.access 1 = .free then
      ({ s with qac := { s.qac with mode := m, timeout := t, limit := h } }, .done [])
    else (s, .refuse .wrongState)
  | _, _, _ => (s, .refuse .range)

/-! ### The quiet and disturbance orders at SSQ -/

/-- SSQ serves an ASK order (R59). -/
def State.applyAsk (s : State) (i : Slot) : State :=
  if (s.slot i).askable ∧ 1 ≤ s.holdCount i then
    (s.putSlot i { s.slot i with quiet := .asked }).post .quietAsk i.val
  else s

/-- SSQ serves a RELEASE order (R59). -/
def State.applyRelease (s : State) (i : Slot) : State :=
  if (s.slot i).runsSensitive ∧ (s.slot i).quiet ≠ .normal ∧ s.holdCount i = 0 then
    (s.putSlot i { s.slot i with quiet := .normal }).post .resume i.val
  else s

/-- The marks list with DISTURBED on one stage's entry. -/
def markDisturbed (marks : List Marks) (stage : Nat) : List Marks :=
  marks.modify stage fun m => { m with disturbed := true }

/-- SSQ serves a disturbance order (R60). -/
def State.applyDisturbance (s : State) (i : Slot) : State :=
  if (s.slot i).exposed then
    (s.putSlot i { s.slot i with marks := markDisturbed (s.slot i).marks (s.slot i).stage }).post .disturbed i.val
  else s

/-- QAC classes a presence change and gives disturbance orders for an ungranted one (R94, R95). DESIGN CHOICE (log entry 25):
the zone mode is the one held when QAC serves the change, also where SET QUIET came between its acceptance and its service. -/
def State.classChange (s : State) (i : Slot) (c : InputChange) : State :=
  if c.startUp ∨ (s.access 0).grants i ∨ (s.access 1).grants i then s
  else s.disturbZone (zoneOf s.qac.mode i)

/-! ### The meanings -/

/-- ACCESS_REQUEST (R81). -/
def execAccessRequest (slot action : Nat) (s : State) : Host.Outcome State Fault Refusal :=
  .next (s.request .handler (.accessRequest slot action) (serveAccessRequest slot action))

/-- ACCESS_CANCEL (R87). -/
def execAccessCancel (record : Nat) (s : State) : Host.Outcome State Fault Refusal :=
  .next (s.request .handler (.accessCancel record) (serveAccessCancel record))

/-- ACCESS_DONE (R89). -/
def execAccessDone (record outcome : Nat) (s : State) : Host.Outcome State Fault Refusal :=
  .next (s.request .handler (.accessDone record outcome) (serveAccessDone record outcome))

/-- QUIET (R83). -/
def execQuiet (slot : Nat) (s : State) : Host.Outcome State Fault Refusal :=
  .next (s.request .test (.quiet slot) (serveQuiet slot))

/-- SET_QUIET (R96). -/
def execSetQuiet (mode timeout limit : Nat) (s : State) : Host.Outcome State Fault Refusal :=
  .next (s.request .line (.setQuiet mode timeout limit) (serveSetQuiet mode timeout limit))

/-- ASK_ORDER (R59): an ASK order on its way for the slot reaches SSQ. -/
def execAskOrder (i : Slot) (s : State) : Host.Outcome State Fault Refusal :=
  if (s.mailOf i).asks = 0 then .next s
  else .next ((s.setMail i { s.mailOf i with asks := (s.mailOf i).asks - 1 }).applyAsk i)

/-- RELEASE_QUIET_ORDER (R59): a RELEASE order on its way for the slot reaches SSQ. -/
def execReleaseQuietOrder (i : Slot) (s : State) : Host.Outcome State Fault Refusal :=
  if (s.mailOf i).releases = 0 then .next s
  else .next ((s.setMail i { s.mailOf i with releases := (s.mailOf i).releases - 1 }).applyRelease i)

/-- DISTURBANCE_ORDER (R60): a disturbance order on its way for the slot reaches SSQ. -/
def execDisturbanceOrder (i : Slot) (s : State) : Host.Outcome State Fault Refusal :=
  if (s.mailOf i).disturbances = 0 then .next s
  else .next ((s.setMail i { s.mailOf i with disturbances := (s.mailOf i).disturbances - 1 }).applyDisturbance i)

/-- SLOT_CHANGE_REPORT (R84): a report on its way for the slot reaches QAC, which serves it at each of its records; it stays
on its way while it would grant an access whose target has a half-served presence change (R94, log entry 23). -/
def execSlotChangeReport (i : Slot) (s : State) : Host.Outcome State Fault Refusal :=
  if (s.mailOf i).changes = 0 ∨ s.grantWaits 0 i ∨ s.grantWaits 1 i then .next s
  else .next (((s.setMail i { s.mailOf i with changes := (s.mailOf i).changes - 1 }).reportAt 0 i).reportAt 1 i)

/-- PRESENCE_CHANGE_AT_QAC (R94): the slot's oldest presence change on its way to QAC reaches it. -/
def execPresenceChangeAtQac (i : Slot) (s : State) : Host.Outcome State Fault Refusal :=
  match (s.mailOf i).presenceToQac with
  | [] => .next s
  | c :: rest => .next ((s.setMail i { s.mailOf i with presenceToQac := rest }).classChange i c)

/-- QUIET_TIMEOUT_EXPIRY (R86): a PENDING record's timer has run out. -/
def execQuietTimeoutExpiry (r : Fin 2) (s : State) : Host.Outcome State Fault Refusal :=
  match s.access r with
  | .pending u => if s.timerDue u.timer then .next (s.endPending r u) else .next s
  | _ => .next s

/-- HOLD_LIMIT_EXPIRY (R88): a GRANTED record's timer has run out. -/
def execHoldLimitExpiry (r : Fin 2) (s : State) : Host.Outcome State Fault Refusal :=
  match s.access r with
  | .granted u p _ =>
    if s.timerDue u.timer then
      .next ((s.setAccess r (.granted { u with timer := none } p true)).post .holdOverrun u.target.val)
    else .next s
  | _ => .next s

end Sys2Proof.Machine
end

