-- ==== Sys2Proof/Machine/Grading.lean ====
section
/-! DEFINITION. The grading unit, GRU (Section 9): a fixed walk over five criteria, as a function of the evidence alone. -/

namespace Sys2Proof.Machine

/-- What a limits fetch brings to a finish grading (R148): the limits table and the minimum credit in minutes. -/
structure Limits where
  table : Vector (Option LimitsEntry) 8
  minCredit : Nat
  deriving DecidableEq, Repr

/-- The evidence of a grading event (R148); no limits in a fault grading. -/
structure Evidence where
  fault : Option FaultKind
  marks : List Marks
  total : Nat
  measures : Vector (Option Nat) 8
  limits : Option Limits
  deriving DecidableEq, Repr

/-- A yield of a criterion: a bin and the reason it would give (R156). -/
abbrev Yield := Bin × Reason

/-- The fault criterion (R149). -/
def faultYield (g : Evidence) : List Yield :=
  match g.fault with
  | some .driveFail => [(.scrap, .fault .driveFail)]
  | some k => [(.rework, .fault k)]
  | none => []

/-- The disturbed criterion (R150). -/
def disturbedYield (g : Evidence) : List Yield :=
  if g.marks.any (·.disturbed) then [(.rework, .disturbed)] else []

/-- The credit short criterion, walked in a finish grading only (R151). -/
def creditYield (g : Evidence) : List Yield :=
  match g.limits with
  | some l => if g.total < l.minCredit * Config.unitsPerMinute then [(.rework, .creditShort)] else []
  | none => []

/-- The overtime criterion (R152). -/
def overtimeYield (g : Evidence) : List Yield :=
  if g.marks.any (·.overtime) then [(.b, .overtime)] else []

/-- The bin of a value compared with its thresholds (R153). -/
def LimitsEntry.binFor (e : LimitsEntry) (v : Nat) : Bin :=
  if v ≤ e.a then .a else if v ≤ e.b then .b else if v ≤ e.r then .rework else .scrap

/-- The yield of one measure id (R153, R154). -/
def measureYield (g : Evidence) (l : Limits) (id : MeasureId) : List Yield :=
  match tget l.table id, tget g.measures id with
  | some e, some v => [(e.binFor v, .measure id)]
  | some e, none => if e.required then [(.rework, .missing id)] else []
  | none, _ => []

/-- The measures criterion, walked in a finish grading only, ids ascending (R153). -/
def measuresYield (g : Evidence) : List Yield :=
  match g.limits with
  | some l => allMeasures.flatMap (measureYield g l)
  | none => []

/-- Every yield in walking order (Table 9-1). -/
def yields (g : Evidence) : List Yield :=
  faultYield g ++ disturbedYield g ++ creditYield g ++ overtimeYield g ++ measuresYield g

/-- The worse of two bins, in the order A, B, REWORK, SCRAP. -/
def Bin.worse (x y : Bin) : Bin := if x.code < y.code then y else x

/-- The worst bin of the yields, A when there is none (R155). -/
def worstBin (ys : List Yield) : Bin := ys.foldr (fun y acc => y.1.worse acc) .a

/-- The reason: that of the first yield whose bin is the drive's, NONE when there is no yield (R156). -/
def firstReason (bin : Bin) : List Yield → Reason
  | [] => .none
  | y :: rest => if y.1 = bin then y.2 else firstReason bin rest

/-- The grade: the worst bin and its reason (R155, R156). -/
def gradeOf (g : Evidence) : Bin × Reason := (worstBin (yields g), firstReason (worstBin (yields g)) (yields g))

/-- The evidence of a slot record (R148). -/
def SlotRecord.evidence (r : SlotRecord) (limits : Option Limits) : Evidence :=
  { fault := r.fault.map (·.1), marks := r.marks, total := r.total, measures := r.measures, limits := limits }

/-- The bin, reason and reason argument as FINISH and ABORT answer them (R65, R66). -/
def gradeBytes (g : Bin × Reason) : List Byte := [byteOf g.1.code, byteOf g.2.code, byteOf g.2.argument]

end Sys2Proof.Machine
end

