-- ==== Sys2Proof/Machine/Store.lean ====
section
/-! DEFINITION. The recipe store, RST (Section 7): staging, the store operations and their ends, suspension, fetches, reads. -/

namespace Sys2Proof.Machine

/-! ### The staging buffer (R117 to R119) -/

/-- The entries of contiguous places from 0: some list when no held place follows an empty one (R119). -/
def contiguous {α : Type} : List (Option α) → Option (List α)
  | [] => some []
  | none :: rest => if rest.all Option.isNone then some [] else none
  | some e :: rest => (contiguous rest).map (e :: ·)

/-- The relations R119 asks of one stage entry. -/
def StageEntry.consistent (e : StageEntry) : Bool :=
  (e.kind != .soak || e.target.isSome) && (!e.suspendable || e.sensitive)

/-- Every limits entry of a table stands in order. -/
def limitsOrdered (table : Vector (Option LimitsEntry) 8) : Bool :=
  allMeasures.all fun m => match tget table m with
    | some e => e.ordered
    | none => true

/-- The recipe record the buffer describes, when it validates (R119). -/
def Staging.recipe? (t : Staging) : Option Recipe :=
  match t.header, contiguous t.steps.toList with
  | some h, some (e :: rest) =>
    if (e :: rest).all StageEntry.consistent ∧ limitsOrdered t.limits then some ⟨h, e :: rest, t.limits⟩ else none
  | _, _ => none

/-! ### Blocks and the operation context -/

/-- RST first writes a block INVALID and clears its lock, before any work on its cells; a block that leaves WRITTEN is
reported to PCU in the same event (R114, R145). -/
def State.invalidate (s : State) (b : BlockNo) : State :=
  let t := s.setBlock b { s.block b with state := .invalid, locked := false, record := none }
  if (s.block b).state = .written then { t with pcu := t.pcu.blockLeft b } else t

/-- The operation context with its running place replaced. -/
def State.setRunning (s : State) (o : Option Running) : State := { s with rst := { s.rst with running := o } }

/-- The running operation a store request begins. -/
def Work.begin (w : Work) (nested : Bool) : Running := ⟨w, nested, false, false⟩

/-- The first failure not yet cleared is kept (R126). -/
def State.recordError (s : State) (k : StoreErrorKind) (b : BlockNo) : State :=
  { s with rst := { s.rst with error := some (s.rst.error.getD (k, b)) } }

/-- Nothing is running and nothing is suspended. -/
def Rst.idle (q : Rst) : Bool := q.running.isNone && q.suspended.isNone

/-- The busy check of PROGRAM: whether it may run, and nested or not (R120). -/
def Rst.programNests? (q : Rst) : Option Bool :=
  match q.running, q.suspended with
  | none, none => some false
  | none, some (.erase _) => some true
  | _, _ => none

/-- The block a work writes or checks, for which STORE_DONE and STORE_FAILED are posted. -/
def Work.target? : Work → Option BlockNo
  | .program b _ => some b
  | .erase b => some b
  | .blankCheck b _ => some b
  | .lock b => some b
  | .clear t _ _ => t

/-- The work can be suspended: an ERASE or a PROGRAM (R127). -/
def Work.suspended? : Work → Option Suspended
  | .program b c => some (.program b c)
  | .erase b => some (.erase b)
  | _ => none

/-- The notice index of a work: its block, 255 for a CLEAR (R130). -/
def Work.noticeIndex : Work → Nat
  | .program b _ => b.val
  | .erase b => b.val
  | .blankCheck b _ => b.val
  | .lock b => b.val
  | .clear _ _ _ => 255

def Suspended.block : Suspended → BlockNo
  | .erase b => b
  | .program b _ => b

/-- Some block is referenced by a slot. -/
def Rst.referenced (q : Rst) : Bool := allBlocks.any fun b => decide (0 < (tget q.blocks b).refs)

/-- A WRITTEN block holds this id and revision (R121). -/
def Rst.holdsRecipe (q : Rst) (id revision : Nat) : Bool :=
  allBlocks.any fun b => match (tget q.blocks b).written? with
    | some r => r.header.id == id && r.header.revision == revision
    | none => false

/-! ### Fetches (R131 to R134) -/

/-- The better of two start-fetch candidates: the higher revision. -/
def newer (best : Option (BlockNo × Recipe)) (c : BlockNo × Recipe) : Option (BlockNo × Recipe) :=
  match best with
  | some d => if d.2.header.revision < c.2.header.revision then some c else some d
  | none => some c

/-- The WRITTEN block holding an id with the highest revision (R134). -/
def Rst.newest? (q : Rst) (id : Nat) : Option (BlockNo × Recipe) :=
  allBlocks.foldl (fun best b => match (tget q.blocks b).written? with
    | some r => if r.header.id = id then newer best (b, r) else best
    | none => best) none

/-- What RST answers a fetch with when it serves it (R134), with the overlay of PCU (R144). -/
def State.fetchResult (s : State) : Fetch → FetchResult
  | .start _ id =>
    match s.rst.newest? id with
    | none => .range
    | some (b, r) =>
      match r.stages with
      | e :: _ => .start b r.header.revision r.stages.length (s.pcu.overlayStage b 0 e)
      | [] => .gone
  | .stage _ b index =>
    match (s.block b).written?.bind (·.stages[index]?) with
    | some e => .stage (s.pcu.overlayStage b index e)
    | none => .gone
  | .limits _ b =>
    match (s.block b).written? with
    | some r => .limits (s.pcu.overlayLimits b r.limits) (s.pcu.overlayMin b r.header.minCredit) s.pcu.generation
    | none => .gone

/-- The count of a start fetch's block rises in the event that serves the fetch (R131). -/
def State.countRef (s : State) : FetchResult → State
  | .start b _ _ _ => s.setBlock b { s.block b with refs := (s.block b).refs + 1 }
  | _ => s

/-- RST serves a fetch: its answer is on its way to SSQ (R134). -/
def State.answerFetch (s : State) (f : Fetch) : State :=
  { s.countRef (s.fetchResult f) with fetch := .answered f (s.fetchResult f) }

/-- RST serves the fetch that waits on a suspension request (R127, R130). -/
def State.answerWaiting (s : State) : State :=
  match s.fetch with
  | .waiting f => s.answerFetch f
  | _ => s

/-- A fetch may be added to the running operation's suspension request (R132). -/
def Rst.fetchMayWait (q : Rst) (o : Running) : Bool :=
  o.work.suspended?.isSome && !o.nested && !o.askedFetch && (o.askedExplicit || (q.priority && q.suspended.isNone))

/-- A fetch reaches RST (R132). -/
def State.fetchReaches (s : State) (f : Fetch) : State :=
  match s.rst.running with
  | none => s.answerFetch f
  | some o =>
    if s.rst.fetchMayWait o then { s.setRunning (some { o with askedFetch := true }) with fetch := .waiting f }
    else { s with fetch := .answered f .busy }

/-! ### The end of a running operation -/

/-- The running operation is gone, and a fetch that waited on it is served with nothing running (R127). -/
def State.endRunning (s : State) (o : Running) : State :=
  let t := s.setRunning none
  if o.askedFetch then t.answerWaiting else t

/-- A PROGRAM completes (R122). -/
def State.programEnds (s : State) (o : Running) (b : BlockNo) (copy : Recipe) (success : Bool) : State :=
  let t := if success then s.setBlock b { s.block b with state := .written, locked := false, record := some copy }
    else s.recordError .programFailed b
  (t.clearOverride.endRunning o).post (if success then .storeDone else .storeFailed) b.val

/-- An ERASE completes (R123). -/
def State.eraseEnds (s : State) (o : Running) (b : BlockNo) (success : Bool) : State :=
  let t := if success then s.setBlock b { s.block b with state := .blank } else s.recordError .eraseFailed b
  (t.clearOverride.endRunning o).post (if success then .storeDone else .storeFailed) b.val

/-- A BLANK CHECK completes (R125). -/
def State.blankCheckEnds (s : State) (o : Running) (b : BlockNo) (prior : BlockState) (erased : Bool) : State :=
  let t := if erased then s.setBlock b { s.block b with state := .blank }
    else (s.setBlock b { s.block b with state := prior }).recordError .checkFailed b
  (t.endRunning o).post (if erased then .storeDone else .storeFailed) b.val

/-- A LOCK completes (R125). -/
def State.lockEnds (s : State) (o : Running) (b : BlockNo) : State :=
  ((s.setBlock b { s.block b with locked := true }).clearOverride.endRunning o).post .storeDone b.val

/-- One block's erasure in a CLEAR completes (R124): the CLEAR goes on with the next block, or ends after block 31. DESIGN CHOICE
(log entry 29): a block that fails posts no STORE_FAILED of its own, the CLEAR posts the one of index 255 at its end. -/
def State.clearBlockEnds (s : State) (o : Running) (b : BlockNo) (failed success : Bool) : State :=
  let t := if success then s.setBlock b { s.block b with state := .blank } else s.recordError .eraseFailed b
  let failed' := failed || !success
  if b.val = 31 then (t.endRunning o).post (if failed' then .storeFailed else .storeDone) 255
  else t.setRunning (some { o with work := .clear none (b.val + 1) failed' })

/-! ### Requests -/

/-- The refusal of any request of Section 7 clears the lock override flag (R116). -/
def storeRequest (serve : State → State × Reply) (s : State) : State × Reply :=
  match (serve s).2 with
  | .now code p => (if code.success then (serve s).1 else (serve s).1.clearOverride, .now code p)
  | r => ((serve s).1, r)

/-- STAGE HEADER at RST (R117). -/
def serveStageHeader (id revision : Nat) (tag : List Byte) (minCredit : Nat) (s : State) : State × Reply :=
  match natIn? 1 65535 id, natIn? 1 255 revision, stringIn? 1 16 tag, natIn? 0 65535 minCredit with
  | some i, some r, some t, some m =>
    ({ s with rst := { s.rst with staging := { Staging.empty with header := some ⟨i, r, t, m⟩ } } }, .done [])
  | _, _, _, _ => (s, .refuse .range)

/-- The stage entry a STAGE STEP's arguments give, when each is in its range (R118). -/
def stageEntryOf? (kind sensitive suspendable : Nat) (target : OptArg) (mode profile : Nat) (limit maxTemp : OptArg) :
    Option StageEntry :=
  match kindOf? kind, boolOf? sensitive, boolOf? suspendable, optIn? (minutesIn? 65535) target, creditModeOf? mode,
      profileOf? profile, optIn? (minutesIn? 10080) limit, optIn? tempIn? maxTemp with
  | some k, some se, some su, some t, some m, some p, some d, some x => some ⟨k, se, su, t, m, p, d, x⟩
  | _, _, _, _, _, _, _, _ => none

/-- STAGE STEP at RST (R118). -/
def serveStageStep (index kind sensitive suspendable : Nat) (target : OptArg) (mode profile : Nat)
    (limit maxTemp : OptArg) (s : State) : State × Reply :=
  match stepOf? index, stageEntryOf? kind sensitive suspendable target mode profile limit maxTemp with
  | some i, some e =>
    ({ s with rst := { s.rst with staging := { s.rst.staging with steps := tset s.rst.staging.steps i (some e) } } },
      .done [])
  | _, _ => (s, .refuse .range)

/-- STAGE LIMITS at RST (R119). -/
def serveStageLimits (measureId a b r required : Nat) (s : State) : State × Reply :=
  match measureOf? measureId, natIn? 0 Config.max32 a, natIn? 0 Config.max32 b, natIn? 0 Config.max32 r,
      boolOf? required with
  | some m, some ta, some tb, some tr, some q =>
    ({ s with rst := { s.rst with staging :=
        { s.rst.staging with limits := tset s.rst.staging.limits m (some ⟨ta, tb, tr, q⟩) } } }, .done [])
  | _, _, _, _, _ => (s, .refuse .range)

/-- PROGRAM at RST (R120, R121). -/
def serveProgram (block : Nat) (s : State) : State × Reply :=
  match blockOf? block with
  | none => (s, .refuse .range)
  | some b =>
    match s.rst.programNests? with
    | none => (s, .refuse .busy)
    | some nested =>
      if (s.block b).state ≠ .blank then (s, .refuse .wrongState)
      else match s.rst.staging.recipe? with
        | none => (s, .refuse .invalidRecipe)
        | some r =>
          if s.rst.holdsRecipe r.header.id r.header.revision then (s, .refuse .duplicate)
          else if s.rst.error.isSome then (s, .refuse .storeError)
          else ((s.invalidate b).setRunning (some ((Work.program b r).begin nested)), .now .accepted [])

/-- ERASE at RST (R120, R123). -/
def serveErase (block : Nat) (s : State) : State × Reply :=
  match blockOf? block with
  | none => (s, .refuse .range)
  | some b =>
    if s.rst.idle = false then (s, .refuse .busy)
    else if (s.block b).locked ∧ s.rst.lockOverride = false then (s, .refuse .locked)
    else if 0 < (s.block b).refs then (s, .refuse .inUse)
    else if s.rst.error.isSome then (s, .refuse .storeError)
    else ((s.invalidate b).setRunning (some ((Work.erase b).begin false)), .now .accepted [])

/-- BLANK CHECK at RST (R120, R125). -/
def serveBlankCheck (block : Nat) (s : State) : State × Reply :=
  match blockOf? block with
  | none => (s, .refuse .range)
  | some b =>
    if s.rst.idle = false then (s, .refuse .busy)
    else if (s.block b).state = .written then (s, .refuse .wrongState)
    else if s.rst.error.isSome then (s, .refuse .storeError)
    else ((s.invalidate b).setRunning (some ((Work.blankCheck b (s.block b).state).begin false)), .now .accepted [])

/-- LOCK at RST (R120, R125). -/
def serveLock (block : Nat) (s : State) : State × Reply :=
  match blockOf? block with
  | none => (s, .refuse .range)
  | some b =>
    if s.rst.idle = false then (s, .refuse .busy)
    else if (s.block b).state ≠ .written ∨ (s.block b).locked then (s, .refuse .wrongState)
    else (s.setRunning (some ((Work.lock b).begin false)), .now .accepted [])

/-- STORE CLEAR at RST (R120, R124). -/
def serveStoreClear (s : State) : State × Reply :=
  if s.rst.idle = false then (s, .refuse .busy)
  else if s.rst.referenced then (s, .refuse .inUse)
  else if s.rst.error.isSome then (s, .refuse .storeError)
  else ({ s with rst := { s.rst with mode := .engineering } }.setRunning (some ((Work.clear none 0 false).begin false)),
    .now .accepted [])

/-- LOCK OVERRIDE at RST (R116). -/
def serveLockOverride (s : State) : State × Reply :=
  match s.rst.mode with
  | .production => (s, .refuse .modeProtected)
  | .engineering => ({ s with rst := { s.rst with lockOverride := true } }, .done [])

/-- SUSPEND at RST (R127). -/
def serveSuspend (s : State) : State × Reply :=
  match s.rst.running with
  | none => (s, .refuse .wrongState)
  | some o =>
    if o.work.suspended?.isNone ∨ o.nested ∨ s.rst.suspended.isSome ∨ o.askedExplicit then (s, .refuse .wrongState)
    else (s.setRunning (some { o with askedExplicit := true }), .now .accepted [])

/-- The work a suspended operation goes on with. -/
def Suspended.work : Suspended → Work
  | .erase b => .erase b
  | .program b c => .program b c

/-- RESUME at RST (R129). -/
def serveResume (s : State) : State × Reply :=
  match s.rst.suspended with
  | none => (s, .refuse .wrongState)
  | some o =>
    if s.rst.running.isSome then (s, .refuse .busy)
    else ({ s with rst := { s.rst with running := some (o.work.begin false), suspended := none } }, .now .accepted [])

/-- STOP's effect on the running operation: a waiting fetch is served with nothing running, the place becomes absent and
STORE_DONE is posted; the target stays as the operation has left it (R130). -/
def State.stopRunning (s : State) : State :=
  match s.rst.running with
  | none => s
  | some o => (s.endRunning o).post .storeDone o.work.noticeIndex

/-- STOP's effect on the suspended operation (R130). -/
def State.stopSuspended (s : State) : State :=
  match s.rst.suspended with
  | none => s
  | some o => { s with rst := { s.rst with suspended := none } }.post .storeDone o.block.val

/-- STOP at RST (R130). -/
def serveStop (s : State) : State × Reply :=
  if s.rst.idle then (s, .refuse .wrongState) else (s.stopRunning.stopSuspended.clearOverride, .done [])

/-- CLEAR STORE STATUS at RST (R126). -/
def serveClearStoreStatus (s : State) : State × Reply := ({ s with rst := { s.rst with error := none } }, .done [])

/-- SET STORE MODE at RST (R115). -/
def serveSetStoreMode (mode : Nat) (s : State) : State × Reply :=
  match storeModeOf? mode with
  | none => (s, .refuse .range)
  | some .engineering => (s, .refuse .modeProtected)
  | some .production =>
    if s.rst.idle = false then (s, .refuse .busy)
    else ({ s with rst := { s.rst with mode := .production, lockOverride := false } }, .done [])

/-- SET FETCH PRIORITY at RST (R133). -/
def serveSetFetchPriority (priority : Nat) (s : State) : State × Reply :=
  match boolOf? priority with
  | none => (s, .refuse .range)
  | some p => ({ s with rst := { s.rst with priority := p } }, .done [])

/-! ### Reading the store (R135, R136) -/

/-- The bytes of an optional two-byte field in READ RECIPE: presence and value; the value bytes of an absent field are the
free value of log entry 3. -/
def optFieldBytes (seed place : Nat) : Option Nat → List Byte
  | some v => 1#8 :: be16 v
  | none => 0#8 :: be16 (Config.ignoredValue seed place).toNat

/-- A stage entry in READ RECIPE: the arguments of STAGE STEP after the step index (R135). -/
def StageEntry.bytes (e : StageEntry) (seed index : Nat) : List Byte :=
  [byteOf e.kind.code, flagByte e.sensitive, flagByte e.suspendable] ++ optFieldBytes seed (3 * index) e.target ++
    [byteOf e.mode.code, byteOf e.profile.val] ++ optFieldBytes seed (3 * index + 1) e.limit ++
    optFieldBytes seed (3 * index + 2) (e.maxTemp.map (twosOf 16))

/-- The stage list in READ RECIPE, from stage `index` on. -/
def stagesBytes (seed : Nat) : Nat → List StageEntry → List Byte
  | _, [] => []
  | index, e :: rest => e.bytes seed index ++ stagesBytes seed (index + 1) rest

/-- The limits table in READ RECIPE: each entry present, in measure id order (R135). -/
def limitsBytes (table : Vector (Option LimitsEntry) 8) : List Byte :=
  byteOf ((allMeasures.filter fun m => (tget table m).isSome).length) ::
    allMeasures.flatMap fun m => match tget table m with
      | some e => byteOf m.val :: be32 e.a ++ be32 e.b ++ be32 e.r ++ [flagByte e.required]
      | none => []

/-- The three parts of READ RECIPE (R135). -/
def recipePart (seed part : Nat) (b : BlockNo) (k : RecipeBlock) (r : Recipe) : List Byte :=
  match part with
  | 0 => [byteOf b.val, flagByte k.locked] ++ be16 r.header.id ++ [byteOf r.header.revision] ++
      stringBytes r.header.tag ++ be16 r.header.minCredit
  | 1 => byteOf b.val :: byteOf r.stages.length :: stagesBytes seed 0 r.stages
  | _ => byteOf b.val :: limitsBytes r.limits

/-- READ RECIPE is refused BUSY: a LOCK of the block or a CLEAR is running (R135). -/
def Rst.readBusy (q : Rst) (b : BlockNo) : Bool :=
  match q.running.map Running.work with
  | some (.lock t) => t == b
  | some (.clear _ _ _) => true
  | _ => false

/-- READ RECIPE at RST (R135). -/
def serveReadRecipe (block part : Nat) (s : State) : State × Reply :=
  match blockOf? block, natIn? 0 2 part with
  | some b, some p =>
    if s.rst.readBusy b then (s, .refuse .busy)
    else match (s.block b).written? with
      | none => (s, .refuse .wrongState)
      | some r => ({ s with freeSeed := s.freeSeed + 1 }, .done (recipePart s.freeSeed p b (s.block b) r))
  | _, _ => (s, .refuse .range)

def Work.code : Work → Nat
  | .program _ _ => 0 | .erase _ => 1 | .blankCheck _ _ => 2 | .lock _ => 3 | .clear _ _ _ => 4

/-- The suspension request's code: 0 absent, 1 EXPLICIT, 2 FETCH, 3 both (R136). -/
def Running.requestCode (o : Running) : Nat := (if o.askedExplicit then 1 else 0) + (if o.askedFetch then 2 else 0)

/-- The running operation in READ STORE (R136). -/
def runningBytes : Option Running → List Byte
  | some o => [1#8, byteOf o.work.code, byteOf ((o.work.target?.map (·.val)).getD 255), flagByte o.nested,
      byteOf o.requestCode]
  | none => [0#8, 0#8, 0#8, 0#8, 0#8]

/-- The suspended operation in READ STORE (R136). -/
def suspendedBytes : Option Suspended → List Byte
  | some (.program b _) => [1#8, 0#8, byteOf b.val]
  | some (.erase b) => [1#8, 1#8, byteOf b.val]
  | none => [0#8, 0#8, 0#8]

/-- The error record in READ STORE (R136). -/
def errorBytes : Option (StoreErrorKind × BlockNo) → List Byte
  | some (k, b) => [1#8, byteOf k.code, byteOf b.val]
  | none => [0#8, 0#8, 0#8]

/-- The staging buffer's status in READ STORE (R136). -/
def stagingBytes (t : Staging) : List Byte :=
  flagByte t.header.isSome :: be16 (bitsNat (t.steps.toList.map Option.isSome)) ++
    [bitsByte (t.limits.toList.map Option.isSome)]

/-- READ STORE's result (R136). -/
def Rst.result (q : Rst) : List Byte :=
  allBlocks.map (fun b => byteOf (tget q.blocks b).state.code) ++
    allBlocks.map (fun b => flagByte (tget q.blocks b).locked) ++
    allBlocks.map (fun b => byteOf (tget q.blocks b).refs) ++
    [byteOf q.mode.code, flagByte q.lockOverride, flagByte q.priority] ++
    runningBytes q.running ++ suspendedBytes q.suspended ++ errorBytes q.error ++ stagingBytes q.staging

/-- READ STORE at RST (R136). -/
def serveReadStore (s : State) : State × Reply := (s, .done s.rst.result)

/-! ### The meanings -/

/-- STAGE_HEADER (R117). -/
def execStageHeader (id revision : Nat) (tag : List Byte) (minCredit : Nat) (s : State) :
    Host.Outcome State Fault Refusal :=
  .next (s.request .line (.stageHeader id revision tag minCredit)
    (storeRequest (serveStageHeader id revision tag minCredit)))

/-- STAGE_STEP (R118). -/
def execStageStep (index kind sensitive suspendable : Nat) (target : OptArg) (mode profile : Nat)
    (limit maxTemp : OptArg) (s : State) : Host.Outcome State Fault Refusal :=
  .next (s.request .line (.stageStep index kind sensitive suspendable target mode profile limit maxTemp)
    (storeRequest (serveStageStep index kind sensitive suspendable target mode profile limit maxTemp)))

/-- STAGE_LIMITS (R119). -/
def execStageLimits (measureId a b r required : Nat) (s : State) : Host.Outcome State Fault Refusal :=
  .next (s.request .line (.stageLimits measureId a b r required)
    (storeRequest (serveStageLimits measureId a b r required)))

/-- PROGRAM (R121). -/
def execProgram (block : Nat) (s : State) : Host.Outcome State Fault Refusal :=
  .next (s.request .line (.program block) (storeRequest (serveProgram block)))

/-- ERASE (R123). -/
def execErase (block : Nat) (s : State) : Host.Outcome State Fault Refusal :=
  .next (s.request .line (.erase block) (storeRequest (serveErase block)))

/-- BLANK_CHECK (R125). -/
def execBlankCheck (block : Nat) (s : State) : Host.Outcome State Fault Refusal :=
  .next (s.request .line (.blankCheck block) (storeRequest (serveBlankCheck block)))

/-- LOCK (R125). -/
def execLock (block : Nat) (s : State) : Host.Outcome State Fault Refusal :=
  .next (s.request .line (.lock block) (storeRequest (serveLock block)))

/-- STORE_CLEAR (R124). -/
def execStoreClear (s : State) : Host.Outcome State Fault Refusal :=
  .next (s.request .line .storeClear (storeRequest serveStoreClear))

/-- LOCK_OVERRIDE (R116). -/
def execLockOverride (s : State) : Host.Outcome State Fault Refusal :=
  .next (s.request .line .lockOverride (storeRequest serveLockOverride))

/-- SUSPEND (R127). -/
def execSuspend (s : State) : Host.Outcome State Fault Refusal :=
  .next (s.request .line .suspend (storeRequest serveSuspend))

/-- RESUME (R129). -/
def execResume (s : State) : Host.Outcome State Fault Refusal :=
  .next (s.request .line .resume (storeRequest serveResume))

/-- STOP (R130). -/
def execStop (s : State) : Host.Outcome State Fault Refusal :=
  .next (s.request .line .stop (storeRequest serveStop))

/-- CLEAR_STORE_STATUS (R126). -/
def execClearStoreStatus (s : State) : Host.Outcome State Fault Refusal :=
  .next (s.request .line .clearStoreStatus (storeRequest serveClearStoreStatus))

/-- SET_STORE_MODE (R115). -/
def execSetStoreMode (mode : Nat) (s : State) : Host.Outcome State Fault Refusal :=
  .next (s.request .line (.setStoreMode mode) (storeRequest (serveSetStoreMode mode)))

/-- SET_FETCH_PRIORITY (R133). -/
def execSetFetchPriority (priority : Nat) (s : State) : Host.Outcome State Fault Refusal :=
  .next (s.request .line (.setFetchPriority priority) (storeRequest (serveSetFetchPriority priority)))

/-- READ_RECIPE (R135). -/
def execReadRecipe (block part : Nat) (s : State) : Host.Outcome State Fault Refusal :=
  .next (s.request .line (.readRecipe block part) (storeRequest (serveReadRecipe block part)))

/-- READ_STORE (R136). -/
def execReadStore (s : State) : Host.Outcome State Fault Refusal :=
  .next (s.request .line .readStore (storeRequest serveReadStore))

/-- PROGRAM_COMPLETION (R122): the running PROGRAM's work on the cells ends. -/
def execProgramCompletion (success : Bool) (s : State) : Host.Outcome State Fault Refusal :=
  match s.rst.running with
  | some ⟨.program b copy, n, e, f⟩ => .next (s.programEnds ⟨.program b copy, n, e, f⟩ b copy success)
  | _ => .next s

/-- ERASE_COMPLETION (R123): the running ERASE's work on the cells ends. -/
def execEraseCompletion (success : Bool) (s : State) : Host.Outcome State Fault Refusal :=
  match s.rst.running with
  | some ⟨.erase b, n, e, f⟩ => .next (s.eraseEnds ⟨.erase b, n, e, f⟩ b success)
  | _ => .next s

/-- BLANK_CHECK_COMPLETION (R125): the running BLANK CHECK has read every cell. -/
def execBlankCheckCompletion (erased : Bool) (s : State) : Host.Outcome State Fault Refusal :=
  match s.rst.running with
  | some ⟨.blankCheck b prior, n, e, f⟩ => .next (s.blankCheckEnds ⟨.blankCheck b prior, n, e, f⟩ b prior erased)
  | _ => .next s

/-- LOCK_COMPLETION (R125): the running LOCK ends. -/
def execLockCompletion (s : State) : Host.Outcome State Fault Refusal :=
  match s.rst.running with
  | some ⟨.lock b, n, e, f⟩ => .next (s.lockEnds ⟨.lock b, n, e, f⟩ b)
  | _ => .next s

/-- CLEAR_BLOCK_ERASURE (R124): the running CLEAR begins the erasure of its next block. -/
def execClearBlockErasure (s : State) : Host.Outcome State Fault Refusal :=
  match s.rst.running with
  | some ⟨.clear none next failed, n, e, f⟩ =>
    match blockOf? next with
    | some b => .next ((s.invalidate b).setRunning (some ⟨.clear (some b) next failed, n, e, f⟩))
    | none => .next s
  | _ => .next s

/-- CLEAR_BLOCK_COMPLETION (R124): the erasure under way in the running CLEAR ends. -/
def execClearBlockCompletion (success : Bool) (s : State) : Host.Outcome State Fault Refusal :=
  match s.rst.running with
  | some ⟨.clear (some b) next failed, n, e, f⟩ =>
    .next (s.clearBlockEnds ⟨.clear (some b) next failed, n, e, f⟩ b failed success)
  | _ => .next s

/-- The running operation at its suspension event: suspended when EXPLICIT was asked, else it goes on (R127). -/
def State.suspendOrGoOn (s : State) (o : Running) : State :=
  match o.askedExplicit, o.work.suspended? with
  | true, some p => { s with rst := { s.rst with running := none, suspended := some p } }.post .storeDone p.block.val
  | _, _ => s.setRunning (some { o with askedExplicit := false, askedFetch := false })

/-- SUSPENSION_EVENT (R127): the running operation reaches the point at which it can halt. -/
def execSuspensionEvent (s : State) : Host.Outcome State Fault Refusal :=
  match s.rst.running with
  | some o =>
    if o.askedFetch then .next (s.answerWaiting.suspendOrGoOn o).clearOverride
    else if o.askedExplicit then .next (s.suspendOrGoOn o).clearOverride
    else .next s
  | none => .next s

/-- START_FETCH (R134): the start fetch on its way reaches RST. -/
def execStartFetch (s : State) : Host.Outcome State Fault Refusal :=
  match s.fetch with
  | .sent (.start i id) => .next (s.fetchReaches (.start i id))
  | _ => .next s

/-- STAGE_FETCH (R134): the stage fetch on its way reaches RST. -/
def execStageFetch (s : State) : Host.Outcome State Fault Refusal :=
  match s.fetch with
  | .sent (.stage i b index) => .next (s.fetchReaches (.stage i b index))
  | _ => .next s

/-- LIMITS_FETCH (R134): the limits fetch on its way reaches RST. -/
def execLimitsFetch (s : State) : Host.Outcome State Fault Refusal :=
  match s.fetch with
  | .sent (.limits i b) => .next (s.fetchReaches (.limits i b))
  | _ => .next s

end Sys2Proof.Machine
end

