-- ==== Sys2Proof/Machine/Slots.lean ====
section
/-! DEFINITION. The slot sequencer, SSQ (Section 4): arrival and loss of a drive, serials, stages and their captures, grading
and faults, READ SLOT, and the events that reach SSQ from SIF, PSQ and TAU. -/

namespace Sys2Proof.Machine

/-! ### Stage captures (R56) -/

/-- The stage context of a fetched stage entry captured at a time (R56, R24). -/
def StageEntry.context (e : StageEntry) (now : RackTime) : StageContext :=
  { kind := e.kind, sensitive := e.sensitive, suspendable := e.suspendable,
    target := e.target.map (· * Config.unitsPerMinute), mode := e.mode, profile := e.profile,
    deadline := e.limit.map now.deadlineAfter, maxTemp := e.maxTemp }

/-- The quiet state a captured stage starts in, by the hold count at the capture (R56). -/
def startQuiet (sensitive : Bool) (holds : Nat) : QuietState := if sensitive ∧ 1 ≤ holds then .quiet else .normal

/-- A slot record after the capture of a stage (R56). -/
def SlotRecord.captured (r : SlotRecord) (index : Nat) (e : StageEntry) (now : RackTime) (holds : Nat) : SlotRecord :=
  { r with state := .running, stage := index, context := some (e.context now), phase := .active, credit := 0,
           quiet := startQuiet e.sensitive holds, marks := r.marks ++ [⟨false, false⟩] }

/-- SSQ reports a capture to TAU (R50, R111). -/
def State.reportCapture (s : State) (i : Slot) : State :=
  s.setMail i { s.mailOf i with captures := (s.mailOf i).captures + 1 }

/-- SSQ captures a stage over a slot record: the context is written, the deadline armed, the capture reported (R56). -/
def State.capture (s : State) (i : Slot) (r : SlotRecord) (index : Nat) (e : StageEntry) : State :=
  ((s.arm i ((e.context s.now).deadline.map fun d => ⟨d, index⟩)).putSlot i
    (r.captured index e s.now (s.holdCount i))).reportCapture i

/-! ### Grading (R67) -/

/-- The dispatch note of a graded slot: the id and revision of its recipe reference, 0 and 0 without one (R160, R71). -/
def SlotRecord.note (r : SlotRecord) : Nat × Nat :=
  match r.recipe with
  | some ref => (ref.id, ref.revision)
  | none => (0, 0)

/-- A slot record after its grading (R67). -/
def SlotRecord.graded (r : SlotRecord) (limits : Option Limits) (generation : Nat) (now : RackTime) : SlotRecord :=
  { r with grade := some (gradeOf (r.evidence limits)), finishedAt := some now, patchGen := some generation,
           recipe := none, context := none, quiet := .normal }

/-- SSQ grades a drive over a slot record, releases its recipe reference, makes its watch list entry absent and has TTB
write its dispatch note (R67, R160). -/
def State.gradeSlot (s : State) (i : Slot) (r : SlotRecord) (limits : Option Limits) (generation : Nat) : State :=
  (((s.releaseRefOf r).arm i none).setNote i (some r.note)).putSlot i (r.graded limits generation s.now)

/-- The grading of a powered drive: the slot goes to SPINDOWN with exit DISPATCH, and PSQ is given a spin-down order (R65,
R66, R68, R69). -/
def State.gradeToSpinDown (s : State) (i : Slot) (r : SlotRecord) (limits : Option Limits) (generation : Nat) : State :=
  (s.gradeSlot i { r with state := .spinDown, exit := .dispatch } limits generation).giveOrder i .spinDown

/-- The slot record with a fault recorded at the current rack time. -/
def State.faulted (s : State) (i : Slot) (k : FaultKind) : SlotRecord := { s.slot i with fault := some (k, s.now) }

/-- The bin, reason and argument a slot record shows, as FINISH and ABORT answer them. -/
def SlotRecord.gradeResult (r : SlotRecord) : List Byte :=
  match r.grade with
  | some g => gradeBytes g
  | none => []

/-- A slot in which an opened latch or an ABORT ends a powered drive's test. -/
def SlotState.powered : SlotState → Bool
  | .ready | .running | .complete => true
  | _ => false

/-! ### Requests -/

/-- The states in which SET SERIAL is taken (R53). -/
def SlotState.takesSerial : SlotState → Bool
  | .loaded | .spinUpWait | .spinUp | .ready | .running => true
  | _ => false

/-- Another slot record or a filled entry holds a serial (R53). -/
def State.serialHeld (s : State) (i : Slot) (serial : List Byte) : Bool :=
  (allSlots.any fun j => j != i && (s.slot j).serial == some serial) ||
    (allTotes.any fun t => (s.tote t).holdsSerial serial)

/-- SET SERIAL at SSQ (R53). -/
def serveSetSerial (slot : Nat) (serial : List Byte) (s : State) : State × Reply :=
  match slotOf? slot, stringIn? 1 20 serial with
  | some i, some cs =>
    if (s.slot i).state.takesSerial = false then (s, .refuse .wrongState)
    else if s.serialHeld i cs then (s, .refuse .duplicate)
    else (s.putSlot i { s.slot i with serial := some cs }, .done [])
  | _, _ => (s, .refuse .range)

/-- START at SSQ (R55): a start fetch, whose answer serves the request. -/
def serveStart (slot recipeId : Nat) (s : State) : State × Reply :=
  match slotOf? slot, natIn? 1 65535 recipeId with
  | some i, some id =>
    if (s.slot i).state ≠ .ready then (s, .refuse .wrongState)
    else if (s.slot i).serial = none then (s, .refuse .wrongState)
    else ({ s with fetch := .sent (.start i id) }, .later)
  | _, _ => (s, .refuse .range)

/-- The payload of ADVANCE: slot state, stage index, quiet state (R62). -/
def SlotRecord.advanceBytes (r : SlotRecord) : List Byte := [byteOf r.state.code, byteOf r.stage, byteOf r.quiet.code]

/-- The current stage has a credit target it has not reached (R61). -/
def SlotRecord.owesCredit (r : SlotRecord) : Bool := (r.context.bind (·.target)).isSome && r.phase == .active

/-- The slot record after its last stage has ended (R62). -/
def SlotRecord.completed (r : SlotRecord) : SlotRecord := { r with state := .complete, quiet := .normal }

/-- ADVANCE at SSQ (R61, R62): the last stage ends at once, an earlier one asks for a stage fetch. -/
def serveAdvance (slot : Nat) (s : State) : State × Reply :=
  match slotOf? slot with
  | none => (s, .refuse .range)
  | some i =>
    let r := s.slot i
    if r.state ≠ .running then (s, .refuse .wrongState)
    else if r.owesCredit then (s, .refuse .wrongState)
    else match r.recipe with
      | none => (s, .refuse .wrongState)
      | some ref =>
        if r.stage + 1 = ref.stages then ((s.arm i none).putSlot i r.completed, .done r.completed.advanceBytes)
        else ({ s with fetch := .sent (.stage i ref.block (r.stage + 1)) }, .later)

/-- MEASURE at SSQ (R63). -/
def serveMeasure (slot measureId value : Nat) (s : State) : State × Reply :=
  match slotOf? slot, measureOf? measureId, natIn? 0 Config.max32 value with
  | some i, some m, some v =>
    if (s.slot i).state = .running ∨ (s.slot i).state = .complete then
      (s.putSlot i { s.slot i with measures := tset (s.slot i).measures m (some v) }, .done [])
    else (s, .refuse .wrongState)
  | _, _, _ => (s, .refuse .range)

/-- FINISH at SSQ (R64): a limits fetch, whose answer serves the request. -/
def serveFinish (slot : Nat) (s : State) : State × Reply :=
  match slotOf? slot with
  | none => (s, .refuse .range)
  | some i =>
    if (s.slot i).state ≠ .complete then (s, .refuse .wrongState)
    else match (s.slot i).recipe with
      | none => (s, .refuse .wrongState)
      | some ref => ({ s with fetch := .sent (.limits i ref.block) }, .later)

/-- ABORT at SSQ (R66). -/
def serveAbort (slot reason : Nat) (s : State) : State × Reply :=
  match slotOf? slot, abortKindOf? reason with
  | some i, some k =>
    if (s.slot i).state = .loaded then
      let t := s.gradeSlot i (s.faulted i k) none s.pcu.generation
      (t.dispatch i, .done (t.slot i).gradeResult)
    else if (s.slot i).state.powered then
      let t := s.gradeToSpinDown i (s.faulted i k) none s.pcu.generation
      (t, .done (t.slot i).gradeResult)
    else (s, .refuse .wrongState)
  | _, _ => (s, .refuse .range)

/-! ### READ SLOT (R16, Table 1-8) -/

/-- Bytes 32 to 35: the recipe reference. -/
def recipeBytes : Option RecipeRef → List Byte
  | some ref => byteOf ref.block.val :: be16 ref.id ++ [byteOf ref.revision]
  | none => [0#8, 0#8, 0#8, 0#8]

/-- Bytes 37 to 41: stage kind, sensitive, suspendable, credit mode, profile. -/
def contextBytes : Option StageContext → List Byte
  | some c => [byteOf c.kind.code, flagByte c.sensitive, flagByte c.suspendable, byteOf c.mode.code, byteOf c.profile.val]
  | none => [0#8, 0#8, 0#8, 0#8, 0#8]

/-- Bytes 102 to 104: bin, reason, reason argument. -/
def optGradeBytes : Option (Bin × Reason) → List Byte
  | some g => gradeBytes g
  | none => [0#8, 0#8, 0#8]

/-- Bytes 105 to 111: the fault kind and the fault time. -/
def faultBytes : Option (FaultKind × RackTime) → List Byte
  | some (k, t) => byteOf k.code :: stampBytes t
  | none => 0#8 :: optStampBytes none

/-- The snapshot of a slot record, with its hold count (Table 1-8, bytes 4 to 131). -/
def SlotRecord.snapshot (r : SlotRecord) (i : Slot) (holds : Nat) : List Byte :=
  [byteOf i.val, byteOf r.state.code, flagByte r.present, flagByte r.closed, r.presentFields, flagByte r.ungranted,
      byteOf r.exit.code] ++ serialBytes r.serial ++ recipeBytes r.recipe ++ [byteOf r.stage] ++
    contextBytes r.context ++ [byteOf r.phase.code, byteOf r.quiet.code, byteOf holds] ++
    be32 ((r.context.bind (·.target)).getD 0) ++ be32 r.credit ++ be32 r.total ++
    optStampBytes (r.context.bind (·.deadline)) ++ be16 (((r.context.bind (·.maxTemp)).map (twosOf 16)).getD 0) ++
    be16 (bitsNat (r.marks.map (·.overtime))) ++ be16 (bitsNat (r.marks.map (·.disturbed))) ++
    [bitsByte (r.measures.toList.map Option.isSome)] ++ r.measures.toList.flatMap (fun v => be32 (v.getD 0)) ++
    optGradeBytes r.grade ++ faultBytes r.fault ++ be16 (r.patchGen.getD 0) ++
    optStampBytes r.loadedAt ++ optStampBytes r.startedAt ++ optStampBytes r.finishedAt

/-- READ SLOT at SSQ (R75). -/
def serveReadSlot (slot : Nat) (s : State) : State × Reply :=
  match slotOf? slot with
  | none => (s, .refuse .range)
  | some i => (s, .done ((s.slot i).snapshot i (s.holdCount i)))

/-! ### Input changes at SSQ -/

/-- The slot becomes LOADED from EMPTY: the flag, the loaded time and LOADED (R51). -/
def State.arrive (s : State) (i : Slot) (ungranted : Bool) : State :=
  (s.putSlot i { s.slot i with state := .loaded, ungranted := ungranted, loadedAt := some s.now }).post .loaded i.val

/-- SSQ serves a change to PRESENT (R51). -/
def State.servePresent (s : State) (i : Slot) (startUp : Bool) : State :=
  let t := s.putSlot i { s.slot i with present := true }
  if (s.slot i).state = .empty then
    if startUp then t.arrive i false
    else if s.grantedFor i .load then t
    else t.arrive i true
  else t

/-- The drive of a slot is lost (R70): a release order, its wait or reservation at TTB released, the record cleared and
DRIVE_LOST posted. -/
def State.loseDrive (s : State) (i : Slot) : State :=
  let t := s.giveOrder i .release
  let u := match (s.slot i).state with
    | .dispatchWait => t.leaveQueue i
    | .unload => t.releaseReservation i
    | _ => t
  (u.clearSlot i).post .driveLost i.val

/-- SSQ serves a change to ABSENT (R70). -/
def State.serveAbsent (s : State) (i : Slot) : State :=
  let t := s.putSlot i { s.slot i with present := false }
  if (s.slot i).state = .empty then t
  else if (s.slot i).state = .unload ∧ s.grantedFor i .unload then t
  else t.loseDrive i

/-- SSQ serves a change of the latch to OPEN (R43, R68, R52). -/
def State.serveLatchOpen (s : State) (i : Slot) : State :=
  let t := s.putSlot i { s.slot i with closed := false }
  match (s.slot i).state with
  | .spinUpWait => t.giveOrder i (.powerOff false)
  | .spinUp | .ready | .running | .complete =>
    t.gradeToSpinDown i (t.faulted i .latchOpen) none t.pcu.generation
  | _ => t

/-- SSQ serves a change of the latch to CLOSED (R52). -/
def State.serveLatchClosed (s : State) (i : Slot) : State := s.putSlot i { s.slot i with closed := true }

/-! ### Fetch answers -/

/-- The fetch is over: no fetch is in flight. -/
def State.endFetch (s : State) : State := { s with fetch := .idle }

/-- The slot record of a served START before its first capture (R57). -/
def SlotRecord.started (r : SlotRecord) (ref : RecipeRef) (now : RackTime) : SlotRecord :=
  { r with recipe := some ref, total := 0, marks := [], startedAt := some now }

/-- SSQ serves the answer to a start fetch (R57). -/
def State.serveStartAnswer (s : State) (i : Slot) (id : Nat) : FetchResult → State
  | .busy => s.respond .test 0x19 .busy []
  | .range => s.respond .test 0x19 .range []
  | .start b revision stages e =>
    if (s.slot i).state = .ready then
      let t := s.capture i ((s.slot i).started ⟨b, id, revision, stages⟩ s.now) 0 e
      t.respond .test 0x19 .done [byteOf (t.slot i).quiet.code]
    else (s.releaseRef b).respond .test 0x19 .wrongState []
  | _ => s.respond .test 0x19 .wrongState []

/-- SSQ serves the answer to a stage fetch (R62). -/
def State.serveStageAnswer (s : State) (i : Slot) (index : Nat) : FetchResult → State
  | .busy => s.respond .test 0x1A .busy []
  | .stage e =>
    if (s.slot i).state = .running then
      let t := s.capture i (s.slot i) index e
      t.respond .test 0x1A .done (t.slot i).advanceBytes
    else s.respond .test 0x1A .wrongState []
  | _ => s.respond .test 0x1A .wrongState []

/-- SSQ serves the answer to a limits fetch (R65). -/
def State.serveLimitsAnswer (s : State) (i : Slot) : FetchResult → State
  | .busy => s.respond .test 0x1C .busy []
  | .limits table minCredit generation =>
    if (s.slot i).state = .complete then
      let t := s.gradeToSpinDown i (s.slot i) (some ⟨table, minCredit⟩) generation
      t.respond .test 0x1C .done (t.slot i).gradeResult
    else s.respond .test 0x1C .wrongState []
  | _ => s.respond .test 0x1C .wrongState []

/-! ### Reports and events at SSQ -/

/-- SSQ serves a spin-down expiry by the spin-down exit (R73). -/
def State.serveSpunDown (s : State) (i : Slot) : State :=
  if (s.slot i).state = .spinDown then
    match (s.slot i).exit with
    | .loaded => s.putSlot i { s.slot i with state := .loaded }
    | .dispatch => s.dispatch i
  else s

/-- SSQ serves an overtemperature event (R69). -/
def State.serveOvertemp (s : State) (i : Slot) : State :=
  if (s.slot i).state = .running then
    (s.gradeToSpinDown i (s.faulted i .overtemp) none s.pcu.generation).post .overtemp i.val
  else s

/-! ### The meanings -/

/-- SET_SERIAL (R53). -/
def execSetSerial (slot : Nat) (serial : List Byte) (s : State) : Host.Outcome State Fault Refusal :=
  .next (s.request .test (.setSerial slot serial) (serveSetSerial slot serial))

/-- START (R55). -/
def execStart (slot recipeId : Nat) (s : State) : Host.Outcome State Fault Refusal :=
  .next (s.request .test (.start slot recipeId) (serveStart slot recipeId))

/-- ADVANCE (R61). -/
def execAdvance (slot : Nat) (s : State) : Host.Outcome State Fault Refusal :=
  .next (s.request .test (.advance slot) (serveAdvance slot))

/-- MEASURE (R63). -/
def execMeasure (slot measureId value : Nat) (s : State) : Host.Outcome State Fault Refusal :=
  .next (s.request .test (.measure slot measureId value) (serveMeasure slot measureId value))

/-- FINISH (R64). -/
def execFinish (slot : Nat) (s : State) : Host.Outcome State Fault Refusal :=
  .next (s.request .test (.finish slot) (serveFinish slot))

/-- ABORT (R66). -/
def execAbort (slot reason : Nat) (s : State) : Host.Outcome State Fault Refusal :=
  .next (s.request .test (.abort slot reason) (serveAbort slot reason))

/-- READ_SLOT (R75). -/
def execReadSlot (l : Link) (slot : Nat) (s : State) : Host.Outcome State Fault Refusal :=
  .next (s.request l (.readSlot l slot) (serveReadSlot slot))

/-- START_FETCH_ANSWER (R57): the answer to the start fetch reaches SSQ. -/
def execStartFetchAnswer (s : State) : Host.Outcome State Fault Refusal :=
  match s.fetch with
  | .answered (.start i id) result => .next (s.endFetch.serveStartAnswer i id result)
  | _ => .next s

/-- STAGE_FETCH_ANSWER (R62): the answer to the stage fetch reaches SSQ. -/
def execStageFetchAnswer (s : State) : Host.Outcome State Fault Refusal :=
  match s.fetch with
  | .answered (.stage i _ index) result => .next (s.endFetch.serveStageAnswer i index result)
  | _ => .next s

/-- LIMITS_FETCH_ANSWER (R65): the answer to the limits fetch reaches SSQ. -/
def execLimitsFetchAnswer (s : State) : Host.Outcome State Fault Refusal :=
  match s.fetch with
  | .answered (.limits i _) result => .next (s.endFetch.serveLimitsAnswer i result)
  | _ => .next s

/-- PRESENCE_PRESENT_AT_SSQ (R51): the slot's oldest presence change on its way, if it is to PRESENT, reaches SSQ. -/
def execPresencePresentAtSsq (i : Slot) (s : State) : Host.Outcome State Fault Refusal :=
  match (s.mailOf i).presenceToSsq with
  | ⟨true, _, startUp⟩ :: rest => .next ((s.setMail i { s.mailOf i with presenceToSsq := rest }).servePresent i startUp)
  | _ => .next s

/-- PRESENCE_ABSENT_AT_SSQ (R70): the slot's oldest presence change on its way, if it is to ABSENT, reaches SSQ. -/
def execPresenceAbsentAtSsq (i : Slot) (s : State) : Host.Outcome State Fault Refusal :=
  match (s.mailOf i).presenceToSsq with
  | ⟨false, _, _⟩ :: rest => .next ((s.setMail i { s.mailOf i with presenceToSsq := rest }).serveAbsent i)
  | _ => .next s

/-- The oldest latch change of a slot is taken at SSQ, and in the same step at QAC, where it has no effect (R32, R94). DEDUCED
(log entry 19): the table has no row for its service at QAC alone. -/
def Mail.takeLatch (m : Mail) (rest : List InputChange) : Mail :=
  { m with latchToSsq := rest, latchToQac := m.latchToQac.tail }

/-- LATCH_OPEN_AT_SSQ (R68): the slot's oldest latch change on its way, if it is to OPEN, reaches SSQ. -/
def execLatchOpenAtSsq (i : Slot) (s : State) : Host.Outcome State Fault Refusal :=
  match (s.mailOf i).latchToSsq with
  | ⟨false, _, _⟩ :: rest => .next ((s.setMail i ((s.mailOf i).takeLatch rest)).serveLatchOpen i)
  | _ => .next s

/-- LATCH_CLOSED_AT_SSQ (R52): the slot's oldest latch change on its way, if it is to CLOSED, reaches SSQ. -/
def execLatchClosedAtSsq (i : Slot) (s : State) : Host.Outcome State Fault Refusal :=
  match (s.mailOf i).latchToSsq with
  | ⟨true, _, _⟩ :: rest => .next ((s.setMail i ((s.mailOf i).takeLatch rest)).serveLatchClosed i)
  | _ => .next s

/-- SPIN_DOWN_EXPIRY (R73): the slot's oldest report, if it is a spin-down expiry, reaches SSQ. -/
def execSpinDownExpiry (i : Slot) (s : State) : Host.Outcome State Fault Refusal :=
  match (s.mailOf i).reports.head? with
  | some .spunDown => .next ((s.dropReport i).serveSpunDown i)
  | _ => .next s

/-- OVERTEMP_EVENT (R69): an overtemperature event on its way for the slot reaches SSQ. -/
def execOvertempEvent (i : Slot) (s : State) : Host.Outcome State Fault Refusal :=
  if (s.mailOf i).overtemps = 0 then .next s
  else .next ((s.setMail i { s.mailOf i with overtemps := (s.mailOf i).overtemps - 1 }).serveOvertemp i)

end Sys2Proof.Machine
end

