-- ==== Sys2Proof/Machine/Thermal.lean ====
section
/-! DEFINITION. The thermal accounting unit, TAU (Section 6): the scan, the service of a reading, thermal profiles, the
credit events it shares with SSQ (R58), and its requests. -/

namespace Sys2Proof.Machine

/-- TAU's temperature context of a slot. -/
def State.temp (s : State) (i : Slot) : TempContext := tget s.tau.contexts i

/-- The state with one temperature context replaced. -/
def State.setTemp (s : State) (i : Slot) (c : TempContext) : State :=
  { s with tau := { s.tau with contexts := tset s.tau.contexts i c } }

/-! ### Readings (R99 to R105, R110) -/

/-- The value of a reply: a signed 16-bit count of quarter-degrees, most significant byte first (R99). -/
def sensorValue (r : SensorReply) : Int := signedOf 16 (beNat [r.high, r.low])

/-- The raw temperature of an accepted reading, none for a failure (R99). -/
def acceptedReading? (reply : Option SensorReply) : Option Int :=
  match reply with
  | some r => if crc8 [r.high, r.low] = r.check then intIn? Config.minTemp Config.maxTemp (sensorValue r) else none
  | none => none

/-- A temperature clamped to the legal range (R103). -/
def clampTemp (t : Int) : Int := max Config.minTemp (min Config.maxTemp t)

/-- The filter step: d times w over 8, rounded away from zero (R105). -/
def filterStep (w : Nat) (d : Int) : Int :=
  if 0 ≤ d then (d * w + 7) / 8 else -((-d * w + 7) / 8)

/-- The filtered temperature after an accepted reading (R102, R105). -/
def filterTemp (w : Nat) (old : Option Int) (tc : Int) : Int :=
  match old with
  | some tf => tf + filterStep w (tc - tf)
  | none => tc

/-- The stage's maximum temperature, for a RUNNING slot whose stage has one (R110). -/
def SlotRecord.runningMax? (r : SlotRecord) : Option Int :=
  if r.state = .running then r.context.bind (·.maxTemp) else none

/-- The hot run after an accepted reading, before the event at 3 (R110). -/
def hotAfter (r : SlotRecord) (tf : Int) (hot : Nat) : Nat :=
  match r.runningMax? with
  | some m => if m < tf then hot + 1 else 0
  | none => 0

/-- A context cleared by the presence test (R100). -/
def TempContext.cleared : TempContext := ⟨none, 0, 0, false⟩

/-- A failed reading of a present slot (R101). -/
def State.readingFails (s : State) (i : Slot) : State :=
  let c := s.temp i
  if 2 ≤ c.failures ∧ c.stale = false then
    (s.setTemp i ⟨none, 3, 0, true⟩).post .sensorStale i.val
  else s.setTemp i { c with failures := min 3 (c.failures + 1) }

/-- An accepted reading of a present slot: corrected, filtered, and compared for overtemperature (R102, R103, R105, R110). -/
def State.readingAccepted (s : State) (i : Slot) (raw : Int) : State :=
  let tf := filterTemp s.tau.weight (s.temp i).filtered (clampTemp (raw + tget s.tau.offsets i))
  let hot := hotAfter (s.slot i) tf (s.temp i).hot
  if 3 ≤ hot then
    (s.setTemp i ⟨some tf, 0, 0, false⟩).setMail i { s.mailOf i with overtemps := (s.mailOf i).overtemps + 1 }
  else s.setTemp i ⟨some tf, 0, hot, false⟩

/-- A reading of a slot is served at its end (R99, R100). -/
def State.serveReading (s : State) (i : Slot) (reply : Option SensorReply) : State :=
  if (s.slot i).present = false then s.setTemp i .cleared
  else match acceptedReading? reply with
    | some raw => s.readingAccepted i raw
    | none => s.readingFails i

/-- The capture reports of a slot that are still on their way reach TAU (R111). -/
def State.takeCaptures (s : State) (i : Slot) : State :=
  if (s.mailOf i).captures = 0 then s
  else (s.setMail i { s.mailOf i with captures := 0 }).setTemp i { s.temp i with hot := 0 }

/-- The next slot of a scan, none after slot 23 (R98). -/
def nextInScan (i : Slot) : Option Slot := slotOf? (i.val + 1)

/-! ### Factors and credit (R106, R108, R58) -/

/-- The factor of a filtered temperature under a profile (R106). -/
def Profile.factor (p : Profile) (tf : Int) : Nat :=
  if tf < p.base then 0
  else tget p.factors ⟨min 15 ((tf - p.base) / p.width).toNat, by omega⟩

/-- The factor of a slot's credit event: under the profile its stage context names, 0 where it holds none (R108). -/
def State.creditFactor (s : State) (i : Slot) (tf : Int) : Nat :=
  match (s.slot i).context with
  | some c => (tget s.tau.profiles c.profile).factor tf
  | none => 0

/-- The slot record after a factor is added: the total saturates, and a credit at or past the target makes the phase DUE
(R58). -/
def SlotRecord.credited (r : SlotRecord) (target factor : Nat) : SlotRecord :=
  { r with
    credit := r.credit + factor
    total := min Config.max32 (r.total + factor)
    phase := if target ≤ r.credit + factor then .due else .active }

/-- SSQ serves the factor of a credit event (R58). -/
def State.addCredit (s : State) (i : Slot) (factor : Nat) : State :=
  match (s.slot i).creditTarget? with
  | some target =>
    let t := s.putSlot i ((s.slot i).credited target factor)
    if target ≤ (s.slot i).credit + factor then t.post .stageDue i.val else t
  | none => s

/-- The slot's part of a tick: a credit event when Tf is present and the slot is not STALE (R108). -/
def State.serveCredit (s : State) (i : Slot) : State :=
  match (s.temp i).filtered, (s.temp i).stale with
  | some tf, false => s.addCredit i (s.creditFactor i tf)
  | _, _ => s

/-! ### Requests -/

/-- SET SCAN at TAU (R112). -/
def serveSetScan (period weight : Nat) (s : State) : State × Reply :=
  match natIn? 1 10 period, natIn? 1 8 weight with
  | some p, some w => ({ s with tau := { s.tau with period := p, weight := w } }, .done [])
  | _, _ => (s, .refuse .range)

/-- The sixteen factors of a profile, each 0 to 255 (R107). -/
def factorsOf? (fs : List Nat) : Option (Vector Nat 16) :=
  if h : fs.toArray.size = 16 then
    if fs.all fun f => decide (f ≤ 255) then some ⟨fs.toArray, h⟩ else none
  else none

/-- A RUNNING slot's current stage names the profile (R107). -/
def State.profileInUse (s : State) (p : Fin 2) : Bool :=
  allSlots.any fun i => (s.slot i).state == .running && ((s.slot i).context.map (·.profile)) == some p

/-- SET PROFILE at TAU (R107). -/
def serveSetProfile (profile : Nat) (base : Int) (width : Nat) (factors : List Nat) (s : State) : State × Reply :=
  match profileOf? profile, intIn? Config.minTemp Config.maxTemp base, natIn? 4 40 width, factorsOf? factors with
  | some p, some b, some w, some f =>
    if s.profileInUse p then (s, .refuse .inUse)
    else ({ s with tau := { s.tau with profiles := tset s.tau.profiles p ⟨b, w, f⟩ } }, .done [])
  | _, _, _, _ => (s, .refuse .range)

/-- SET OFFSET at TAU (R104). -/
def serveSetOffset (slot : Nat) (offset : Int) (s : State) : State × Reply :=
  match slotOf? slot, intIn? (-32) 31 offset with
  | some i, some o => ({ s with tau := { s.tau with offsets := tset s.tau.offsets i o } }, .done [])
  | _, _ => (s, .refuse .range)

/-! ### The meanings -/

/-- SCAN_START (R98): a scan begins once a scan period has passed since the start of the last one, or since the reset
effect, and no scan is in progress. -/
def execScanStart (s : State) : Host.Outcome State Fault Refusal :=
  if s.tau.scanNext = none ∧ s.reached (s.tau.scanStartAt + s.tau.period * 1000) then
    .next { s with tau := { s.tau with scanStartAt := s.rck.osc, scanNext := some 0 } }
  else .next s

/-- SENSOR_READING (R99): the reading of the scan's next slot ends; the scan goes on with the slot after it. A capture that SSQ
served before the reading is known to TAU by then, so that the reading is the first of a new run (R111, log entry 27). -/
def execSensorReading (reply : Option SensorReply) (s : State) : Host.Outcome State Fault Refusal :=
  match s.tau.scanNext with
  | some i => .next (({ s with tau := { s.tau with scanNext := nextInScan i } }.takeCaptures i).serveReading i reply)
  | none => .next s

/-- CREDIT_EVENT (R108): the slot's part of a tick on its way is served by TAU and SSQ in one event. -/
def execCreditEvent (i : Slot) (s : State) : Host.Outcome State Fault Refusal :=
  if (s.mailOf i).credits = 0 then .next s
  else .next ((s.setMail i { s.mailOf i with credits := (s.mailOf i).credits - 1 }).serveCredit i)

/-- CAPTURE_REPORT (R111): a report of a stage capture on its way reaches TAU. -/
def execCaptureReport (i : Slot) (s : State) : Host.Outcome State Fault Refusal :=
  if (s.mailOf i).captures = 0 then .next s
  else .next ((s.setMail i { s.mailOf i with captures := (s.mailOf i).captures - 1 }).setTemp i
    { s.temp i with hot := 0 })

/-- SET_SCAN (R112). -/
def execSetScan (period weight : Nat) (s : State) : Host.Outcome State Fault Refusal :=
  .next (s.request .line (.setScan period weight) (serveSetScan period weight))

/-- SET_PROFILE (R107). -/
def execSetProfile (profile : Nat) (base : Int) (width : Nat) (factors : List Nat) (s : State) :
    Host.Outcome State Fault Refusal :=
  .next (s.request .line (.setProfile profile base width factors) (serveSetProfile profile base width factors))

/-- SET_OFFSET (R104). -/
def execSetOffset (slot : Nat) (offset : Int) (s : State) : Host.Outcome State Fault Refusal :=
  .next (s.request .line (.setOffset slot offset) (serveSetOffset slot offset))

end Sys2Proof.Machine
end

