-- ==== Sys2Proof/Machine/Dispatch.lean ====
section
/-! DEFINITION. The meaning of each command: one arm for each row of the table. -/

namespace Sys2Proof.Machine

/-- The effect of a command on everything but the queue of waiting commands. -/
def exec (i : Instr) (s : State) : Host.Outcome State Fault Refusal :=
  match i with
  | .requestFrame link bytes => Sys2Proof.Machine.execRequestFrame link bytes s
  | .lengthFault link length => Sys2Proof.Machine.execLengthFault link length s
  | .frameTimeout link => Sys2Proof.Machine.execFrameTimeout link s
  | .responseSent link => Sys2Proof.Machine.execResponseSent link s
  | .resetEffect => Sys2Proof.Machine.execResetEffect s
  | .takeNotice link => Sys2Proof.Machine.execTakeNotice link s
  | .setLevels link entries => Sys2Proof.Machine.execSetLevels link entries s
  | .setMask link level => Sys2Proof.Machine.execSetMask link level s
  | .readClock link => Sys2Proof.Machine.execReadClock link s
  | .setTime seconds millis => Sys2Proof.Machine.execSetTime seconds millis s
  | .rackTimeAdvance => Sys2Proof.Machine.execRackTimeAdvance s
  | .deadlineExpiry slot => Sys2Proof.Machine.execDeadlineExpiry slot s
  | .accountingTick => Sys2Proof.Machine.execAccountingTick s
  | .creditEvent slot => Sys2Proof.Machine.execCreditEvent slot s
  | .sample presence latch => Sys2Proof.Machine.execSample presence latch s
  | .presencePresentAtSsq slot => Sys2Proof.Machine.execPresencePresentAtSsq slot s
  | .presenceAbsentAtSsq slot => Sys2Proof.Machine.execPresenceAbsentAtSsq slot s
  | .latchOpenAtSsq slot => Sys2Proof.Machine.execLatchOpenAtSsq slot s
  | .latchClosedAtSsq slot => Sys2Proof.Machine.execLatchClosedAtSsq slot s
  | .presenceChangeAtQac slot => Sys2Proof.Machine.execPresenceChangeAtQac slot s
  | .disturbanceOrder slot => Sys2Proof.Machine.execDisturbanceOrder slot s
  | .setInputs interval presencePolarity latchPolarity => Sys2Proof.Machine.execSetInputs interval presencePolarity latchPolarity s
  | .powerOn slot => Sys2Proof.Machine.execPowerOn slot s
  | .spinUpStartReport slot => Sys2Proof.Machine.execSpinUpStartReport slot s
  | .spinUpTimerExpiry slot => Sys2Proof.Machine.execSpinUpTimerExpiry slot s
  | .spinUpExpiry slot => Sys2Proof.Machine.execSpinUpExpiry slot s
  | .powerOff slot => Sys2Proof.Machine.execPowerOff slot s
  | .powerOffOrder slot => Sys2Proof.Machine.execPowerOffOrder slot s
  | .spinDownOrder slot => Sys2Proof.Machine.execSpinDownOrder slot s
  | .releaseOrder slot => Sys2Proof.Machine.execReleaseOrder slot s
  | .spinDownTimerExpiry slot => Sys2Proof.Machine.execSpinDownTimerExpiry slot s
  | .spinDownExpiry slot => Sys2Proof.Machine.execSpinDownExpiry slot s
  | .setPower budget upTime downTime => Sys2Proof.Machine.execSetPower budget upTime downTime s
  | .setSerial slot serial => Sys2Proof.Machine.execSetSerial slot serial s
  | .start slot recipeId => Sys2Proof.Machine.execStart slot recipeId s
  | .startFetch => Sys2Proof.Machine.execStartFetch s
  | .startFetchAnswer => Sys2Proof.Machine.execStartFetchAnswer s
  | .captureReport slot => Sys2Proof.Machine.execCaptureReport slot s
  | .advance slot => Sys2Proof.Machine.execAdvance slot s
  | .stageFetch => Sys2Proof.Machine.execStageFetch s
  | .stageFetchAnswer => Sys2Proof.Machine.execStageFetchAnswer s
  | .measure slot measureId value => Sys2Proof.Machine.execMeasure slot measureId value s
  | .finish slot => Sys2Proof.Machine.execFinish slot s
  | .limitsFetch => Sys2Proof.Machine.execLimitsFetch s
  | .limitsFetchAnswer => Sys2Proof.Machine.execLimitsFetchAnswer s
  | .abort slot reason => Sys2Proof.Machine.execAbort slot reason s
  | .readSlot link slot => Sys2Proof.Machine.execReadSlot link slot s
  | .overtempEvent slot => Sys2Proof.Machine.execOvertempEvent slot s
  | .accessRequest slot action => Sys2Proof.Machine.execAccessRequest slot action s
  | .askOrder slot => Sys2Proof.Machine.execAskOrder slot s
  | .quiet slot => Sys2Proof.Machine.execQuiet slot s
  | .slotChangeReport slot => Sys2Proof.Machine.execSlotChangeReport slot s
  | .quietTimeoutExpiry record => Sys2Proof.Machine.execQuietTimeoutExpiry record s
  | .holdLimitExpiry record => Sys2Proof.Machine.execHoldLimitExpiry record s
  | .accessCancel record => Sys2Proof.Machine.execAccessCancel record s
  | .accessDone record outcome => Sys2Proof.Machine.execAccessDone record outcome s
  | .releaseQuietOrder slot => Sys2Proof.Machine.execReleaseQuietOrder slot s
  | .setQuiet mode timeout limit => Sys2Proof.Machine.execSetQuiet mode timeout limit s
  | .scanStart => Sys2Proof.Machine.execScanStart s
  | .sensorReading reply => Sys2Proof.Machine.execSensorReading reply s
  | .setScan period weight => Sys2Proof.Machine.execSetScan period weight s
  | .setProfile profile base width factors => Sys2Proof.Machine.execSetProfile profile base width factors s
  | .setOffset slot offset => Sys2Proof.Machine.execSetOffset slot offset s
  | .stageHeader recipeId revision tag minCredit => Sys2Proof.Machine.execStageHeader recipeId revision tag minCredit s
  | .stageStep index kind sensitive suspendable target mode profile limit maxTemp => Sys2Proof.Machine.execStageStep index kind sensitive suspendable target mode profile limit maxTemp s
  | .stageLimits measureId a b r required => Sys2Proof.Machine.execStageLimits measureId a b r required s
  | .program block => Sys2Proof.Machine.execProgram block s
  | .programCompletion success => Sys2Proof.Machine.execProgramCompletion success s
  | .erase block => Sys2Proof.Machine.execErase block s
  | .eraseCompletion success => Sys2Proof.Machine.execEraseCompletion success s
  | .blankCheck block => Sys2Proof.Machine.execBlankCheck block s
  | .blankCheckCompletion erased => Sys2Proof.Machine.execBlankCheckCompletion erased s
  | .lock block => Sys2Proof.Machine.execLock block s
  | .lockCompletion => Sys2Proof.Machine.execLockCompletion s
  | .lockOverride => Sys2Proof.Machine.execLockOverride s
  | .storeClear => Sys2Proof.Machine.execStoreClear s
  | .clearBlockErasure => Sys2Proof.Machine.execClearBlockErasure s
  | .clearBlockCompletion success => Sys2Proof.Machine.execClearBlockCompletion success s
  | .suspend => Sys2Proof.Machine.execSuspend s
  | .suspensionEvent => Sys2Proof.Machine.execSuspensionEvent s
  | .resume => Sys2Proof.Machine.execResume s
  | .stop => Sys2Proof.Machine.execStop s
  | .clearStoreStatus => Sys2Proof.Machine.execClearStoreStatus s
  | .setStoreMode mode => Sys2Proof.Machine.execSetStoreMode mode s
  | .setFetchPriority priority => Sys2Proof.Machine.execSetFetchPriority priority s
  | .readRecipe block part => Sys2Proof.Machine.execReadRecipe block part s
  | .readStore => Sys2Proof.Machine.execReadStore s
  | .patchEdit => Sys2Proof.Machine.execPatchEdit s
  | .patchSet channel enable block kind selector field value => Sys2Proof.Machine.execPatchSet channel enable block kind selector field value s
  | .patchApply => Sys2Proof.Machine.execPatchApply s
  | .patchWithdraw => Sys2Proof.Machine.execPatchWithdraw s
  | .openTote label bin capacity => Sys2Proof.Machine.execOpenTote label bin capacity s
  | .closeTote record => Sys2Proof.Machine.execCloseTote record s
  | .releaseTote record => Sys2Proof.Machine.execReleaseTote record s
  | .readTote link record position => Sys2Proof.Machine.execReadTote link record position s
  | .rackReset => Sys2Proof.Machine.execRackReset s
  | .receivedByte link byte => Sys2Proof.Machine.execReceivedByte link byte s

end Sys2Proof.Machine
end

