-- ==== Sys2Proof/Safety.lean ====
section
/-! DEFINITION. The terms claims are stated in: what it is for a link to have a request ready to be served, what a safe step
is, and the laws the manual says the part keeps, block by block. -/

namespace Sys2Proof.Machine

/-- The step of a state answers a next state: no fault and no refusal. -/
def SafeStep (s : State) : Prop := ∃ t, step s = .next t

/-! ### Requests and their links -/

/-- The link a request comes on, none for an event. A request that Table 1-4 marks for one link comes on that link. -/
def requestLink : Instr → Option Link
  | .takeNotice l | .setLevels l _ | .setMask l _ | .readClock l | .readSlot l _ | .readTote l _ _ => some l
  | .powerOn _ | .powerOff _ | .setSerial _ _ | .start _ _ | .advance _ | .measure _ _ _ | .finish _ | .abort _ _
  | .quiet _ => some .test
  | .accessRequest _ _ | .accessCancel _ | .accessDone _ _ => some .handler
  | .setTime _ _ | .setInputs _ _ _ | .setPower _ _ _ | .setQuiet _ _ _ | .setScan _ _ | .setProfile _ _ _ _
  | .setOffset _ _ | .stageHeader _ _ _ _ | .stageStep _ _ _ _ _ _ _ _ _ | .stageLimits _ _ _ _ _ | .program _
  | .erase _ | .blankCheck _ | .lock _ | .lockOverride | .storeClear | .suspend | .resume | .stop
  | .clearStoreStatus | .setStoreMode _ | .setFetchPriority _ | .readRecipe _ _ | .readStore | .patchEdit
  | .patchSet _ _ _ _ _ _ _ | .patchApply | .patchWithdraw | .openTote _ _ _ | .closeTote _ | .releaseTote _
  | .rackReset => some .line
  | .requestFrame _ _ | .lengthFault _ _ | .frameTimeout _ | .responseSent _ | .resetEffect | .rackTimeAdvance
  | .deadlineExpiry _ | .accountingTick | .creditEvent _ | .sample _ _ | .presencePresentAtSsq _
  | .presenceAbsentAtSsq _ | .latchOpenAtSsq _ | .latchClosedAtSsq _ | .presenceChangeAtQac _ | .disturbanceOrder _
  | .spinUpStartReport _ | .spinUpTimerExpiry _ | .spinUpExpiry _ | .powerOffOrder _ | .spinDownOrder _
  | .releaseOrder _ | .spinDownTimerExpiry _ | .spinDownExpiry _ | .startFetch | .startFetchAnswer | .captureReport _
  | .stageFetch | .stageFetchAnswer | .limitsFetch | .limitsFetchAnswer | .overtempEvent _ | .askOrder _
  | .slotChangeReport _ | .quietTimeoutExpiry _ | .holdLimitExpiry _ | .releaseQuietOrder _ | .scanStart
  | .sensorReading _ | .programCompletion _ | .eraseCompletion _ | .blankCheckCompletion _ | .lockCompletion
  | .clearBlockErasure | .clearBlockCompletion _ | .suspensionEvent | .receivedByte _ _ => none

/-- The link holds the request, passed to its owning block, and its output list has room for the response (R3, R4). -/
abbrev State.Ready (s : State) (l : Link) (c : Instr) : Prop :=
  (s.link l).held = some (.passed c) ∧ (s.link l).output.length < Config.outputDepth

/-- The state after the response to a link's request has entered its output list and the request is released (R3). -/
def State.answered (s : State) (l : Link) (c : Instr) (code : RespCode) (payload : List Byte) : State :=
  s.setLink l { s.link l with
    output := (s.link l).output ++ [responseFrame (requestCode c) code payload], held := none }

/-! ### Section 1: the links -/

/-- The request a held request is, while it is not yet answered. -/
def Held.request? : Held → Option Instr
  | .passed c => some c
  | .serving c => some c
  | .answered _ => none

/-- The request of a held request that a later event answers. -/
def Held.serving? : Held → Option Instr
  | .serving c => some c
  | _ => none

/-- The received bytes of a frame stay within what its length allows (R1). -/
def Receiver.fits : Receiver → Bool
  | .body n received => decide (n ≤ Config.maxPayload ∧ received.length < n + 3)
  | _ => true

/-- What a link keeps (R1, R3, R4, R8, R9, R11, R12). -/
structure LinkLaws (l : Link) (ls : LinkState) : Prop where
  attention : ls.attention = ls.attentionDue
  output : ls.output.length ≤ Config.outputDepth
  waits : ∀ h ∈ ls.held, h.request? = none → ls.output.length = Config.outputDepth
  noticeOnce : ls.notices.Nodup
  noticeRecorded : ∀ p ∈ ls.notices, p.1.recordedOn l = true ∧ 1 ≤ ls.level p.1
  levels : ∀ k, tget ls.levels k ≤ 15
  mask : ls.mask ≤ 15
  receiver : ls.receiver.fits = true
  heldHere : ∀ h ∈ ls.held, ∀ c ∈ h.request?, requestLink c = some l

/-- The request a fetch serves. -/
def Fetch.request : Fetch → Instr
  | .start i id => .start i.val id
  | .stage i _ _ => .advance i.val
  | .limits i _ => .finish i.val

/-- The fetch in flight. -/
def FetchPlace.fetch? : FetchPlace → Option Fetch
  | .idle => none
  | .sent f => some f
  | .waiting f => some f
  | .answered f _ => some f

/-- A power-off order of the slot, on its way, that a POWER OFF waits on. -/
abbrev State.offAsked (s : State) (i : Slot) : Prop := PowerOrder.powerOff true ∈ (s.mailOf i).orders

/-- A request that a later event answers (R3): START, ADVANCE and FINISH while their fetch is in flight (R55, R61, R64), POWER
OFF while its order is (R41), on the test link alone. -/
structure HoldLaws (s : State) : Prop where
  fetchHeld : ∀ f ∈ s.fetch.fetch?, s.testLink.held = some (.serving f.request)
  offHeld : ∀ i, s.offAsked i → s.testLink.held = some (.serving (.powerOff i.val))
  offOnce : ∀ i, (s.mailOf i).orders.count (.powerOff true) ≤ 1
  served : ∀ h ∈ s.testLink.held, ∀ c ∈ h.serving?,
    (∃ f ∈ s.fetch.fetch?, f.request = c) ∨ ∃ i : Slot, c = .powerOff i.val ∧ s.offAsked i
  handler : ∀ h ∈ s.handlerLink.held, h.serving? = none
  line : ∀ h ∈ s.lineLink.held, h.serving? = none

/-! ### Section 2: the clock -/

/-- A rack time lies in its range (Conventions, "Rack time"). -/
abbrev RackTime.legal (t : RackTime) : Prop := t.seconds ≤ Config.maxSeconds ∧ t.millis < 1000

/-- What RCK and SSQ keep of rack time and the watch list (R18, R22, R24, R25, R27): an armed entry belongs to the current
stage of a RUNNING slot, and rack time has not reached it. -/
structure ClockLaws (s : State) : Prop where
  time : s.rck.time.legal
  phase : s.rck.tickPhase < Config.tickMillis
  armed : ∀ i, ∀ d ∈ tget s.rck.watch i, (s.slot i).state = .running ∧ (s.slot i).stage = d.stage ∧
    (s.slot i).context.bind (·.deadline) = some d.time ∧ s.now.reaches d.time = false

/-! ### Section 3: inputs and power -/

/-- What SIF keeps (R30, R31, R34). -/
structure InputLaws (q : Sif) : Prop where
  presence : ∀ i, (tget q.presence i).run ≤ 2
  latch : ∀ i, (tget q.latch i).run ≤ 2
  interval : q.interval ∈ [1, 2, 5, 10]
  startUp : q.startUpCount ≤ 3

/-- What PSQ keeps (3.4, R38, R47). -/
structure PowerLaws (p : Psq) : Prop where
  queueOnce : p.queue.Nodup
  queued : ∀ i, i ∈ p.queue ↔ (tget p.slots i).phase = .queued
  lanes : p.lanes = allSlots.countP fun i => (tget p.slots i).phase == .spinUp
  output : ∀ i, (tget p.slots i).output = true ↔ (tget p.slots i).phase = .spinUp ∨ (tget p.slots i).phase = .on
  timer : ∀ i, (tget p.slots i).timer.isSome = true ↔
    (tget p.slots i).phase = .spinUp ∨ (tget p.slots i).phase = .spinDown
  looked : p.queue = [] ∨ p.budget ≤ p.lanes
  budget : 1 ≤ p.budget ∧ p.budget ≤ 8
  times : 2 ≤ p.upTime ∧ p.upTime ≤ 30 ∧ 2 ≤ p.downTime ∧ p.downTime ≤ 30

/-! ### Section 4: the slot records -/

/-- A drive stands in the slot and its test has not begun. -/
def SlotRecord.isFresh (r : SlotRecord) : Bool :=
  match r.state with
  | .loaded | .spinUpWait | .spinUp | .ready => true
  | .spinDown => r.exit == .loaded
  | _ => false

/-- A test is under way or waits for FINISH. -/
def SlotState.testing : SlotState → Bool
  | .running | .complete => true
  | _ => false

/-- The record holds a grade (R67): in SPINDOWN with exit DISPATCH, DISPATCH_WAIT and UNLOAD. -/
def SlotRecord.isGraded (r : SlotRecord) : Bool :=
  match r.state with
  | .dispatchWait | .unload => true
  | .spinDown => r.exit == .dispatch
  | _ => false

/-- The stage credit under a target (R58): below it while ACTIVE, at or past it and at most 254 above it while DUE; without a
target ACTIVE with no credit. -/
def SlotRecord.creditLawful (r : SlotRecord) (c : StageContext) : Prop :=
  match c.target with
  | some t => 1 ≤ t ∧ r.credit ≤ t + 254 ∧ (r.phase = .due ↔ t ≤ r.credit)
  | none => r.phase = .active ∧ r.credit = 0

/-- What SSQ keeps of one slot record (Table 4-1, R49, R56, R58, R59, R67). -/
structure RecordLaws (r : SlotRecord) : Prop where
  empty : r.state = .empty → r = r.cleared
  fresh : r.isFresh = true → r.stage = 0 ∧ r.credit = 0 ∧ r.total = 0 ∧ r.marks = [] ∧
    r.measures = Vector.replicate 8 none ∧ r.startedAt = none
  recipe : r.recipe.isSome = r.state.testing
  context : r.context.isSome = r.state.testing
  quiet : r.quiet ≠ .normal → r.runsSensitive = true
  asked : r.quiet = .asked → (r.context.map (·.suspendable)).getD false = true
  grade : r.grade.isSome = r.isGraded
  finished : r.finishedAt.isSome = r.isGraded
  generation : r.patchGen.isSome = r.isGraded
  fault : r.fault.isSome = true → r.isGraded = true
  loaded : r.loadedAt.isSome = true ↔ r.state ≠ .empty
  marks : r.marks.length ≤ 16
  stage : ∀ ref ∈ r.recipe, r.marks.length = r.stage + 1 ∧ r.stage < ref.stages ∧ ref.stages ≤ 16
  credit : ∀ c ∈ r.context, r.creditLawful c
  total : r.total ≤ Config.max32
  serial : ∀ cs ∈ r.serial, stringIn? 1 20 cs = some cs

/-- The serial a position of a tote record holds, its place counted from 0. -/
def Tote.serialAt? (t : Tote) (place : Nat) : Option (List Byte) :=
  match t.body?.bind (·.positions[place]?) with
  | some (.filled e) => e.serial
  | _ => none

/-- Where two places hold a serial, it is the same place (R54): slot records, and filled entries of totes that are not FREE. -/
structure SerialLaws (s : State) : Prop where
  slots : ∀ i j, ∀ cs ∈ (s.slot i).serial, (s.slot j).serial = some cs → i = j
  entries : ∀ i t, ∀ cs ∈ (s.slot i).serial, (s.tote t).holdsSerial cs = false
  totes : ∀ t u p q cs, (s.tote t).serialAt? p = some cs → (s.tote u).serialAt? q = some cs → t = u ∧ p = q

/-! ### Section 5: quiet access -/

/-- One if the record is in use and its zone holds the slot. -/
def AccessRecord.covers (r : AccessRecord) (i : Slot) : Nat :=
  match r.use? with
  | some u => if i ∈ u.zone then 1 else 0
  | none => 0

/-- The zone of a GRANTED record, empty for another. -/
def AccessRecord.grantedZone : AccessRecord → List Slot
  | .granted u _ _ => u.zone
  | _ => []

/-- The timer of a record fits its state (R78, R88). -/
def AccessRecord.timed : AccessRecord → Bool
  | .free => true
  | .pending u => u.timer.isSome
  | .granted u _ overrun => u.timer.isSome != overrun

/-- The access of a GRANTED record, none for another. -/
def AccessRecord.granted? : AccessRecord → Option AccessUse
  | .granted u _ _ => some u
  | _ => none

/-- The target of a GRANTED access is kept (R85): an unload's stays in UNLOAD, and no drive comes ungranted into a load's. -/
def AccessUse.kept (u : AccessUse) (r : SlotRecord) : Bool :=
  match u.action with
  | .unload => r.state == .unload
  | .load => !r.ungranted

/-- What QAC and SSQ keep of accesses (R59, R78, R79, R80, R82, R85, R93, R96). -/
structure QuietLaws (s : State) : Prop where
  zones : ∀ r, ∀ u ∈ (s.access r).use?, u.zone = zoneOf s.qac.mode u.target
  targets : ∀ u ∈ (s.access 0).use?, ∀ v ∈ (s.access 1).use?, u.target ≠ v.target
  timed : ∀ r, (s.access r).timed = true
  holds : ∀ i, s.holdCount i = (s.access 0).covers i + (s.access 1).covers i
  granted : ∀ r, ∀ j ∈ (s.access r).grantedZone, (s.slot j).exposed = false
  kept : ∀ r, ∀ u ∈ (s.access r).granted?, u.kept (s.slot u.target) = true
  released : ∀ i, (s.slot i).quiet ≠ .normal → 1 ≤ s.holdCount i ∨ 1 ≤ (s.mailOf i).releases
  settings : 1 ≤ s.qac.timeout ∧ s.qac.timeout ≤ 60 ∧ 5 ≤ s.qac.limit ∧ s.qac.limit ≤ 120

/-! ### Section 6: burn-in accounting -/

/-- A temperature lies in the legal range. -/
abbrev legalTemp (t : Int) : Prop := Config.minTemp ≤ t ∧ t ≤ Config.maxTemp

/-- What TAU keeps (R101, R105, R107, R110, R112). -/
structure ThermalLaws (q : Tau) : Prop where
  filtered : ∀ i, ∀ t ∈ (tget q.contexts i).filtered, legalTemp t
  failures : ∀ i, (tget q.contexts i).failures ≤ 3
  hot : ∀ i, (tget q.contexts i).hot ≤ 2
  stale : ∀ i, (tget q.contexts i).stale = true → (tget q.contexts i).filtered = none ∧ (tget q.contexts i).failures = 3
  factors : ∀ p b, tget (tget q.profiles p).factors b ≤ 255
  widths : ∀ p, 4 ≤ (tget q.profiles p).width ∧ (tget q.profiles p).width ≤ 40
  offsets : ∀ i, -32 ≤ tget q.offsets i ∧ tget q.offsets i ≤ 31
  weight : 1 ≤ q.weight ∧ q.weight ≤ 8
  period : 1 ≤ q.period ∧ q.period ≤ 10

/-! ### Sections 7 and 8: the recipe store and the patches -/

/-- A stage entry's values lie in their ranges (Table 7-2). -/
abbrev StageEntry.legal (e : StageEntry) : Prop :=
  (∀ t ∈ e.target, 1 ≤ t ∧ t ≤ 65535) ∧ (∀ d ∈ e.limit, 1 ≤ d ∧ d ≤ 10080) ∧ (∀ x ∈ e.maxTemp, legalTemp x)

/-- A recipe record that staging would have accepted (Tables 7-1 to 7-3, R119). -/
structure Recipe.Legal (r : Recipe) : Prop where
  stages : 1 ≤ r.stages.length ∧ r.stages.length ≤ 16
  entries : ∀ e ∈ r.stages, e.legal ∧ e.consistent = true
  limits : limitsOrdered r.limits = true

/-- The recipe a work programs. -/
def Work.copy? : Work → Option Recipe
  | .program _ c => some c
  | _ => none

def Suspended.copy? : Suspended → Option Recipe
  | .program _ c => some c
  | .erase _ => none

/-- What a running work has made of its target (R114, R120, R124, R125). -/
def Work.lawful (q : Rst) : Work → Prop
  | .program b _ => (tget q.blocks b).state = .invalid
  | .erase b => (tget q.blocks b).state = .invalid
  | .blankCheck b prior => (tget q.blocks b).state = .invalid ∧ prior ≠ .written
  | .lock b => (tget q.blocks b).state = .written ∧ (tget q.blocks b).locked = false
  | .clear (some b) next _ => (tget q.blocks b).state = .invalid ∧ next = b.val ∧ q.mode = .engineering
  | .clear none next _ => next < 32 ∧ q.mode = .engineering

/-- A recipe is legal, and no WRITTEN block holds its id and revision. -/
def Recipe.unheld (q : Rst) (r : Recipe) : Prop := r.Legal ∧ q.holdsRecipe r.header.id r.header.revision = false

/-- What RST keeps of its blocks and its operation context (R114 to R121, R127, R128). -/
structure StoreLaws (q : Rst) : Prop where
  records : ∀ b, (tget q.blocks b).record.isSome = true ↔ (tget q.blocks b).state = .written
  locks : ∀ b, (tget q.blocks b).locked = true → (tget q.blocks b).state = .written
  recipes : ∀ b, ∀ r ∈ (tget q.blocks b).written?, r.Legal
  distinct : ∀ b c, ∀ r ∈ (tget q.blocks b).written?, ∀ r' ∈ (tget q.blocks c).written?,
    r.header.id = r'.header.id → r.header.revision = r'.header.revision → b = c
  running : ∀ o ∈ q.running, o.work.lawful q ∧ ∀ r ∈ o.work.copy?, r.unheld q
  suspended : ∀ o ∈ q.suspended, (tget q.blocks o.block).state = .invalid ∧ ∀ r ∈ o.copy?, r.unheld q
  nested : ∀ o ∈ q.running, o.nested = q.suspended.isSome
  nestedWork : ∀ o ∈ q.running, ∀ p ∈ q.suspended,
    o.work.copy?.isSome = true ∧ p.copy? = none ∧ o.work.target? ≠ some p.block
  asked : ∀ o ∈ q.running, o.askedExplicit = true ∨ o.askedFetch = true → o.work.suspended?.isSome = true ∧ o.nested = false
  staging : ∀ i, ∀ e ∈ tget q.staging.steps i, e.legal
  override : q.mode = .production → q.lockOverride = false

/-- The start fetch data on its way to SSQ for a block. -/
def FetchPlace.startAnswer? : FetchPlace → Option (BlockNo × Nat × Nat × Nat × StageEntry)
  | .answered (.start _ id) (.start b revision stages e) => some (b, id, revision, stages, e)
  | _ => none

/-- The stage entry a fetch's answer carries. -/
def FetchResult.entry? : FetchResult → Option StageEntry
  | .start _ _ _ e => some e
  | .stage e => some e
  | _ => none

/-- The answer of a fetch that RST has served. -/
def FetchPlace.result? : FetchPlace → Option FetchResult
  | .answered _ r => some r
  | _ => none

/-- The stage fetch in flight: its slot, block and stage index. -/
def FetchPlace.stage? (p : FetchPlace) : Option (Slot × BlockNo × Nat) :=
  match p.fetch? with
  | some (.stage i b n) => some (i, b, n)
  | _ => none

/-- The fetch waits on a suspension event. -/
def FetchPlace.isWaiting : FetchPlace → Bool
  | .waiting _ => true
  | _ => false

/-- The block holds a WRITTEN record with this id, revision and number of stages. -/
def Rst.records (q : Rst) (b : BlockNo) (id revision stages : Nat) : Prop :=
  ∃ r, (tget q.blocks b).written? = some r ∧ r.header.id = id ∧ r.header.revision = revision ∧ r.stages.length = stages

/-- What RST and SSQ keep of references and fetches (R131, R132, R61, R134). -/
structure ReferenceLaws (s : State) : Prop where
  counted : ∀ b, (s.block b).refs = (allSlots.countP fun i => (s.slot i).recipe.map (·.block) == some b) +
    if s.fetch.startAnswer?.map (·.1) = some b then 1 else 0
  held : ∀ i, ∀ ref ∈ (s.slot i).recipe, s.rst.records ref.block ref.id ref.revision ref.stages
  answered : ∀ a ∈ s.fetch.startAnswer?, s.rst.records a.1 a.2.1 a.2.2.1 a.2.2.2.1
  entries : ∀ r ∈ s.fetch.result?, ∀ e ∈ r.entry?, e.legal
  stageFetch : ∀ f ∈ s.fetch.stage?, (s.slot f.1).state = .running →
    ∃ ref, (s.slot f.1).recipe = some ref ∧ ref.block = f.2.1 ∧ f.2.2 = (s.slot f.1).stage + 1 ∧ f.2.2 < ref.stages
  waiting : s.fetch.isWaiting = true ↔ ∃ o ∈ s.rst.running, o.askedFetch = true
  cleared : ∀ o ∈ s.rst.running, o.work.suspended? = none → o.work.noticeIndex = 255 → ∀ b, (s.block b).refs = 0

/-- What PCU keeps while ACTIVE (R141, R145): every enabled channel's value is in range and its block is WRITTEN. -/
structure PatchLaws (s : State) : Prop where
  active : s.pcu.unit = .active → ∀ c ∈ s.pcu.list, c.enable = true → c.inRange = true ∧ (s.block c.block).state = .written
  generation : s.pcu.generation ≤ 65535

/-! ### Section 10: totes -/

/-- The positions of a record reserved for a slot. -/
def Tote.reservedFor (t : Tote) (i : Slot) : Nat :=
  match t.body? with
  | some b => b.positions.countP (·.holds i)
  | none => 0

/-- The filled entry of a position. -/
def Position.entry? : Position → Option FilledEntry
  | .filled e => some e
  | _ => none

/-- The bin of a slot's grade. -/
def SlotRecord.bin? (r : SlotRecord) : Option Bin := r.grade.map (·.1)

/-- What TTB and SSQ keep of totes and wait queues (R160 to R167). -/
structure ToteLaws (s : State) : Prop where
  oneOpen : ∀ t u, ∀ b ∈ (s.tote t).open?, ∀ c ∈ (s.tote u).open?, b.bin = c.bin → t = u
  size : ∀ t, ∀ b ∈ (s.tote t).body?, 1 ≤ b.positions.length ∧ b.positions.length ≤ 40
  closed : ∀ t, ∀ b ∈ (s.tote t).body?, (s.tote t).open? = none → b.reserved = 0
  reserved : ∀ t i, ∀ b ∈ (s.tote t).open?, 1 ≤ (s.tote t).reservedFor i → (s.slot i).bin? = some b.bin
  unload : ∀ i, (allTotes.map fun t => (s.tote t).reservedFor i).sum = if (s.slot i).state = .unload then 1 else 0
  queueOnce : ∀ g, (s.waitQueue g).Nodup
  queues : ∀ g i, i ∈ s.waitQueue g ↔ (s.slot i).state = .dispatchWait ∧ (s.slot i).bin? = some g
  noRoom : ∀ t, ∀ b ∈ (s.tote t).open?, s.waitQueue b.bin ≠ [] → b.lowestEmpty? = none
  filledBin : ∀ t, ∀ b ∈ (s.tote t).body?, ∀ p ∈ b.positions, ∀ e ∈ p.entry?, e.bin = b.bin
  notes : ∀ i, (tget s.ttb.notes i).isSome = (s.slot i).isGraded

/-! ### The whole part -/

/-- The laws of the whole part. -/
structure Lawful (s : State) : Prop where
  test : LinkLaws .test s.testLink
  handler : LinkLaws .handler s.handlerLink
  line : LinkLaws .line s.lineLink
  holds : HoldLaws s
  clock : ClockLaws s
  inputs : InputLaws s.sif
  power : PowerLaws s.psq
  records : ∀ i, RecordLaws (s.slot i)
  serials : SerialLaws s
  quiet : QuietLaws s
  thermal : ThermalLaws s.tau
  store : StoreLaws s.rst
  references : ReferenceLaws s
  patches : PatchLaws s
  totes : ToteLaws s

end Sys2Proof.Machine
end

