-- ==== Sys2Proof/WellFormed.lean ====
section
/-! DEFINITION. Well-formed commands: every argument of a request fits the bytes that R6 gives it, and a list or string
fits its count byte. A well-formed argument may still lie outside its stated range; the meaning then refuses it (R7). -/

namespace Sys2Proof

/-- The value fits one byte. -/
def fits8 (n : Nat) : Bool := decide (n < 256)

/-- The value fits two bytes. -/
def fits16 (n : Nat) : Bool := decide (n < 65536)

/-- The value fits four bytes. -/
def fits32 (n : Nat) : Bool := decide (n < 4294967296)

/-- The signed value fits one byte. -/
def fitsSigned8 (z : Int) : Bool := decide (-128 ≤ z ∧ z < 128)

/-- The signed value fits two bytes. -/
def fitsSigned16 (z : Int) : Bool := decide (-32768 ≤ z ∧ z < 32768)

/-- An optional unsigned two-byte argument fits its bytes. -/
def OptArg.fits (a : OptArg) : Bool := fits8 a.presence && decide (0 ≤ a.value ∧ a.value < 65536)

/-- An optional signed two-byte argument fits its bytes. -/
def OptArg.fitsSigned (a : OptArg) : Bool := fits8 a.presence && fitsSigned16 a.value

/-- Every argument of the command fits its bytes. -/
def wellFormed : Instr → Bool
  | .setLevels _ es => fits8 es.length && es.all fun e => fits8 e.1 && fits8 e.2
  | .setMask _ m => fits8 m
  | .setTime t m => fits32 t && fits16 m
  | .setInputs a b c => fits8 a && fits8 b && fits8 c
  | .powerOn i => fits8 i
  | .powerOff i => fits8 i
  | .setPower a b c => fits8 a && fits8 b && fits8 c
  | .setSerial i cs => fits8 i && fits8 cs.length
  | .start i r => fits8 i && fits16 r
  | .advance i => fits8 i
  | .measure i m v => fits8 i && fits8 m && fits32 v
  | .finish i => fits8 i
  | .abort i r => fits8 i && fits8 r
  | .readSlot _ i => fits8 i
  | .accessRequest i a => fits8 i && fits8 a
  | .quiet i => fits8 i
  | .accessCancel r => fits8 r
  | .accessDone r o => fits8 r && fits8 o
  | .setQuiet m t h => fits8 m && fits8 t && fits8 h
  | .setScan p w => fits8 p && fits8 w
  | .setProfile p b w fs => fits8 p && fitsSigned16 b && fits8 w && decide (fs.length = 16) && fs.all fits8
  | .setOffset i o => fits8 i && fitsSigned8 o
  | .stageHeader i r tag c => fits16 i && fits8 r && fits8 tag.length && fits16 c
  | .stageStep i k s u t m p d x =>
    fits8 i && fits8 k && fits8 s && fits8 u && t.fits && fits8 m && fits8 p && d.fits && x.fitsSigned
  | .stageLimits m a b r q => fits8 m && fits32 a && fits32 b && fits32 r && fits8 q
  | .program b => fits8 b
  | .erase b => fits8 b
  | .blankCheck b => fits8 b
  | .lock b => fits8 b
  | .setStoreMode m => fits8 m
  | .setFetchPriority p => fits8 p
  | .readRecipe b p => fits8 b && fits8 p
  | .patchSet c e b k s f v => fits8 c && fits8 e && fits8 b && fits8 k && fits8 s && fits8 f && fits32 v
  | .openTote t b c => fits32 t && fits8 b && fits8 c
  | .closeTote r => fits8 r
  | .releaseTote r => fits8 r
  | .readTote _ r p => fits8 r && fits8 p
  | .requestFrame _ _ | .lengthFault _ _ | .frameTimeout _ | .responseSent _ | .resetEffect | .takeNotice _
  | .readClock _ | .rackTimeAdvance | .deadlineExpiry _ | .accountingTick | .creditEvent _ | .sample _ _
  | .presencePresentAtSsq _ | .presenceAbsentAtSsq _ | .latchOpenAtSsq _ | .latchClosedAtSsq _
  | .presenceChangeAtQac _ | .disturbanceOrder _ | .spinUpStartReport _ | .spinUpTimerExpiry _ | .spinUpExpiry _
  | .powerOffOrder _ | .spinDownOrder _ | .releaseOrder _ | .spinDownTimerExpiry _ | .spinDownExpiry _
  | .startFetch | .startFetchAnswer | .captureReport _ | .stageFetch | .stageFetchAnswer | .limitsFetch
  | .limitsFetchAnswer | .overtempEvent _ | .askOrder _ | .slotChangeReport _ | .quietTimeoutExpiry _
  | .holdLimitExpiry _ | .releaseQuietOrder _ | .scanStart | .sensorReading _ | .programCompletion _
  | .eraseCompletion _ | .blankCheckCompletion _ | .lockCompletion | .lockOverride | .storeClear
  | .clearBlockErasure | .clearBlockCompletion _ | .suspend | .suspensionEvent | .resume | .stop
  | .clearStoreStatus | .readStore | .patchEdit | .patchApply | .patchWithdraw | .rackReset | .receivedByte _ _ => true

end Sys2Proof
end

