-- ==== Sys2Proof/Certificates/Slice0/Obligations.lean ====
section
/-! DEFINITION. The statements for the provers, section by section of the manual. A state written as a record update, or
built by the operations named in it, says the whole effect: every part of the state it does not name is unchanged. -/

section

open Sys2Proof Sys2Proof.Machine

/-! ### The machine -/

/-- A step serves the command at the front of the queue with the queue's rest; on an empty queue the part idles, which is the
model's choice (log entry 7). -/
def Obligations.StepServesTheFrontCommand : Prop :=
  (∀ (c : Instr) (rest : List Instr) (s : State), s.pending = c :: rest → step s = exec c { s with pending := rest }) ∧
  ∀ s : State, s.pending = [] → step s = .next s

/-- Every command answers a next state in every state, and no command touches the waiting commands. This is the model's choice:
every meaning is total (log entry 17), an event that finds nothing to do leaves the state (log entry 2), and the queue is the
model's own (log entry 7). -/
def Obligations.EveryCommandAnswersANextState : Prop :=
  (∀ s : State, SafeStep s) ∧ ∀ (c : Instr) (s : State), ∃ t, exec c s = .next t ∧ t.pending = s.pending

/-- After the reset effect every block holds the values its section gives, whatever the state before; the nonvolatile cells
and the store mode keep theirs (R137). The model's own free-value counter (log entry 18) and waiting commands (log entry 7)
stay; the reset effect is a command taken at any time (log entry 6). Then the values, written out: the links with the levels
of Table 1-6 (R14), the place of a kind that a link does not record holding 0, which is the model's choice (log entry 22),
the clock (R29), the inputs (R36), the power sequencer (R48), the slot records (R76), QAC (R97), TAU (R113), RST's volatile
state (R137), PCU (R147) and TTB (R170); nothing is on its way; the oscillator counts from the reset effect, so that the
first sample is due at 2 ms and the first scan at 2 s (log entry 18). The blocks and the store mode of `State.reset` are
those the part leaves the factory with (log entry 8). -/
def Obligations.ResetLeavesEveryBlockAtItsValues : Prop :=
  let s := State.reset
  let level : NoticeKind → Nat
    | .loaded | .spunUp => 4
    | .dispatchStall => 5
    | .stageDue | .unloadReady | .storeDone => 6
    | .deadline | .toteFull => 7
    | .sensorStale => 8
    | .disturbed | .holdOverrun => 9
    | .accessEnded | .storeFailed => 10
    | .resume => 11
    | .quietAsk | .grant => 12
    | .overtemp => 13
    | .driveLost => 14
  (∀ s : State, exec .resetEffect s = .next { State.reset with
    rst := { State.reset.rst with
      blocks := tof fun b => { s.block b with refs := 0 }, mode := s.rst.mode },
    freeSeed := s.freeSeed, pending := s.pending }) ∧
  (∀ l, (s.link l).receiver = .hunt ∧ (s.link l).held = none ∧ (s.link l).output = [] ∧ (s.link l).notices = [] ∧
    (s.link l).mask = 0 ∧ (s.link l).attention = false ∧
    ∀ k : NoticeKind, (s.link l).level k = if k.recordedOn l then level k else 0) ∧
  s.rck.time = ⟨0, 0⟩ ∧ s.rck.unset = true ∧ s.rck.tickPhase = 0 ∧ (∀ i, tget s.rck.watch i = none) ∧
  (∀ i, tget s.sif.presence i = ⟨false, 0⟩ ∧ tget s.sif.latch i = ⟨false, 0⟩) ∧ s.sif.interval = 2 ∧
  s.sif.presencePolarity = .activeLow ∧ s.sif.latchPolarity = .activeLow ∧ s.sif.startUpCount = 0 ∧
  (∀ i, s.power i = ⟨.off, false, none⟩) ∧ s.psq.queue = [] ∧ s.psq.lanes = 0 ∧ s.psq.budget = 4 ∧
  s.psq.upTime = 12 ∧ s.psq.downTime = 8 ∧
  (∀ i, (s.slot i).state = .empty ∧ (s.slot i).present = false ∧ (s.slot i).closed = false ∧
    (s.slot i).ungranted = false ∧ (s.slot i).serial = none ∧ (s.slot i).recipe = none ∧ (s.slot i).context = none ∧
    (s.slot i).stage = 0 ∧ (s.slot i).phase = .active ∧ (s.slot i).credit = 0 ∧ (s.slot i).total = 0 ∧
    (s.slot i).quiet = .normal ∧ (s.slot i).marks = [] ∧ (∀ m, tget (s.slot i).measures m = none) ∧
    (s.slot i).grade = none ∧ (s.slot i).fault = none ∧ (s.slot i).patchGen = none ∧ (s.slot i).exit = .loaded ∧
    (s.slot i).loadedAt = none ∧ (s.slot i).startedAt = none ∧ (s.slot i).finishedAt = none) ∧
  (∀ r, s.access r = .free) ∧ (∀ i, s.holdCount i = 0) ∧ s.qac.mode = .near ∧ s.qac.timeout = 10 ∧ s.qac.limit = 30 ∧
  (∀ i, s.temp i = ⟨none, 0, 0, false⟩) ∧
  (∀ p, (tget s.tau.profiles p).base = 160 ∧ (tget s.tau.profiles p).width = 10 ∧
    (tget s.tau.profiles p).factors.toList = [11, 13, 16, 19, 23, 27, 32, 38, 45, 54, 64, 76, 91, 108, 128, 152]) ∧
  (∀ i, tget s.tau.offsets i = 0) ∧ s.tau.period = 2 ∧ s.tau.weight = 2 ∧ s.tau.scanNext = none ∧
  s.rst.lockOverride = false ∧ s.rst.priority = true ∧ s.rst.staging.header = none ∧
  (∀ i, tget s.rst.staging.steps i = none) ∧ (∀ m, tget s.rst.staging.limits m = none) ∧ s.rst.running = none ∧
  s.rst.suspended = none ∧ s.rst.error = none ∧ (∀ b, s.block b = ⟨.blank, false, none, 0⟩) ∧ s.rst.mode = .engineering ∧
  s.pcu.unit = .off ∧ s.pcu.generation = 0 ∧ (∀ c, tget s.pcu.channels c = ⟨false, 0, .minCredit, 0⟩) ∧
  (∀ t, s.tote t = .free) ∧ (∀ g, s.waitQueue g = []) ∧ (∀ i, tget s.ttb.notes i = none) ∧
  s.fetch = .idle ∧ (∀ i, s.mailOf i = ⟨[], [], [], [], [], [], [], 0, 0, 0, 0, 0, 0, 0⟩) ∧ s.ticks = 0 ∧ s.resetDue = false ∧
  s.rck.osc = 0 ∧ s.sif.lastSampleAt + s.sif.interval = 2 ∧ s.tau.scanStartAt + s.tau.period * 1000 = 2000

/-- The laws of the whole part hold right after reset. -/
def Obligations.LawsHoldAtReset : Prop := Lawful State.reset

/-! ### Section 1: links, requests and notices -/

/-- R1: the receiver's three states, byte by byte, its refusal of a length above 250, and the frame timeout; a timeout
in HUNT or before its 20 ms changes nothing, which is the model's choice (log entry 2). (A frame that becomes complete is the
matter of `CompleteFramesAreChecked`.) -/
def Obligations.ReceiverFollowsItsStates : Prop :=
  ∀ (l : Link) (x : Byte) (s : State),
    let ls := s.link l
    let goOn (r : Receiver) := s.setLink l { ls with receiver := r, lastByteAt := s.rck.osc }
    let abandon (echo : Nat) := s.setLink l { ls with
      receiver := .hunt
      output := if ls.output.length < 4 then ls.output ++ [responseFrame echo .badFrame []] else ls.output }
    (ls.receiver = .hunt → exec (.receivedByte l x) s = .next (if x = 0xC3#8 then goOn .header else s)) ∧
    (ls.receiver = .header → x.toNat ≤ 250 → exec (.receivedByte l x) s = .next (goOn (.body x.toNat []))) ∧
    (ls.receiver = .header → 250 < x.toNat →
      exec (.lengthFault l x) s = .next (abandon 0) ∧ exec (.receivedByte l x) s = .next (abandon 0)) ∧
    (∀ n received, ls.receiver = .body n received → received.length + 1 < n + 3 →
      exec (.receivedByte l x) s = .next (goOn (.body n (received ++ [x])))) ∧
    (ls.receiver = .header → ls.lastByteAt + 20 ≤ s.rck.osc → exec (.frameTimeout l) s = .next (abandon 0)) ∧
    (∀ n code rest, ls.receiver = .body n (code :: rest) → ls.lastByteAt + 20 ≤ s.rck.osc →
      exec (.frameTimeout l) s = .next (abandon code.toNat)) ∧
    (∀ n, ls.receiver = .body n [] → ls.lastByteAt + 20 ≤ s.rck.osc → exec (.frameTimeout l) s = .next (abandon 0)) ∧
    (ls.receiver = .hunt ∨ s.rck.osc < ls.lastByteAt + 20 → exec (.frameTimeout l) s = .next s)

/-- R2: a complete frame is checked in the order of the rule, whatever it holds: CRC, OVERRUN, then taken and answered
UNKNOWN, NOT_PERMITTED or BAD_FRAME, or passed to its owning block. A Section 7 request refused here clears the lock override
flag, which is the model's reading of R116 (log entry 10). Then Table 1-4: the codes that it permits on each link, which
together are the codes that are known. -/
def Obligations.CompleteFramesAreChecked : Prop :=
  (let codes : Link → List Nat
    | .test => [0x01, 0x02, 0x03, 0x04, 0x10, 0x11, 0x18, 0x19, 0x1A, 0x1B, 0x1C, 0x1D, 0x1E, 0x23]
    | .handler => [0x01, 0x02, 0x03, 0x04, 0x1E, 0x20, 0x21, 0x22, 0x52]
    | .line => [0x01, 0x02, 0x03, 0x04, 0x05, 0x12, 0x13, 0x1E, 0x24, 0x28, 0x29, 0x2A, 0x30, 0x31, 0x32, 0x33, 0x34, 0x35,
        0x36, 0x37, 0x38, 0x39, 0x3A, 0x3B, 0x3C, 0x3D, 0x3E, 0x3F, 0x40, 0x48, 0x49, 0x4A, 0x4B, 0x50, 0x51, 0x52, 0x53, 0x5F]
  ∀ code, (∀ l, permitted code l = true ↔ code ∈ codes l) ∧ (knownCode code = true ↔ ∃ l, code ∈ codes l)) ∧
  ∀ (l : Link) (n : Nat) (received : List Byte) (s : State), (s.link l).receiver = .hunt → n ≤ 250 →
    received.length = n + 3 →
    let ls : LinkState := { s.link l with lastByteAt := s.rck.osc }
    let code := (received.headD 0#8).toNat
    let untaken (k : RespCode) := s.setLink l { ls with
      output := if ls.output.length < 4 then ls.output ++ [responseFrame code k []] else ls.output }
    let refused (k : RespCode) := (if 0x30 ≤ code ∧ code ≤ 0x40 then s.clearOverride else s).setLink l
      (if ls.output.length < 4 then { ls with output := ls.output ++ [responseFrame code k []] }
        else { ls with held := some (.answered (responseFrame code k [])) })
    exec (.requestFrame l (0xC3#8 :: BitVec.ofNat 8 n :: received)) s = .next (
      if (crc16 (BitVec.ofNat 8 n :: received.take (n + 1))).toNat ≠ beNat (received.drop (n + 1)) then untaken .badFrame
      else if ls.held.isSome then untaken .overrun
      else if knownCode code = false then refused .unknown
      else if permitted code l = false then refused .notPermitted
      else match decodeRequest l code ((received.drop 1).take n) with
        | none => refused .badFrame
        | some c => s.setLink l { ls with held := some (.passed c) })

/-- R6: for every request whose arguments fit their bytes, the bytes of its arguments read back as the request, whatever the
values. Then the code of each request in Table 1-4. -/
def Obligations.ArgumentsDecodeAsEncoded : Prop :=
  (let code : Instr → Nat
    | .takeNotice _ => 0x01 | .setLevels _ _ => 0x02 | .setMask _ _ => 0x03 | .readClock _ => 0x04 | .setTime _ _ => 0x05
    | .powerOn _ => 0x10 | .powerOff _ => 0x11 | .setPower _ _ _ => 0x12 | .setInputs _ _ _ => 0x13 | .setSerial _ _ => 0x18
    | .start _ _ => 0x19 | .advance _ => 0x1A | .measure _ _ _ => 0x1B | .finish _ => 0x1C | .abort _ _ => 0x1D
    | .readSlot _ _ => 0x1E | .accessRequest _ _ => 0x20 | .accessDone _ _ => 0x21 | .accessCancel _ => 0x22 | .quiet _ => 0x23
    | .setQuiet _ _ _ => 0x24 | .setScan _ _ => 0x28 | .setProfile _ _ _ _ => 0x29 | .setOffset _ _ => 0x2A
    | .stageHeader _ _ _ _ => 0x30 | .stageStep _ _ _ _ _ _ _ _ _ => 0x31 | .stageLimits _ _ _ _ _ => 0x32
    | .program _ => 0x33 | .erase _ => 0x34 | .blankCheck _ => 0x35 | .lock _ => 0x36 | .lockOverride => 0x37
    | .suspend => 0x38 | .resume => 0x39 | .stop => 0x3A | .clearStoreStatus => 0x3B | .setStoreMode _ => 0x3C
    | .storeClear => 0x3D | .setFetchPriority _ => 0x3E | .readRecipe _ _ => 0x3F | .readStore => 0x40 | .patchEdit => 0x48
    | .patchSet _ _ _ _ _ _ _ => 0x49 | .patchApply => 0x4A | .patchWithdraw => 0x4B | .openTote _ _ _ => 0x50
    | .closeTote _ => 0x51 | .readTote _ _ _ => 0x52 | .releaseTote _ => 0x53 | .rackReset => 0x5F
    | _ => 0
  ∀ c, requestCode c = code c) ∧
  ∀ (c : Instr) (l : Link), requestLink c = some l → wellFormed c = true → permitted (requestCode c) l = true →
    decodeRequest l (requestCode c) (encodeArgs c) = some c

/-- R3, R4, R13: a response enters its link's output list and releases its request, or waits for room with the request
held; the first frame leaves the list when it has been sent, and a response that waited then enters. RACK RESET is answered
first; the end of its response makes the reset effect due, which is a command of its own (log entry 6). With nothing to send,
nothing happens, which is the model's choice (log entry 2). Then the bytes of a response (Table 1-2) with the codes of
Table 1-3. -/
def Obligations.ResponsesPassThroughTheOutputList : Prop :=
  (∀ (l : Link) (s : State),
    (∀ f rest, (s.link l).output = f :: rest → rest.length < 4 →
      exec (.responseSent l) s = .next
        ({ s with resetDue := s.resetDue || (decide (l = Link.line) && decide (f = responseFrame 0x5F .done [])) }.setLink l
          (match (s.link l).held with
            | some (.answered g) => { s.link l with output := rest ++ [g], held := none }
            | _ => { s.link l with output := rest }))) ∧
    ((s.link l).output = [] → exec (.responseSent l) s = .next s)) ∧
  (∀ (l : Link) (echo : Nat) (k : RespCode) (p : List Byte) (s : State), s.respond l echo k p = s.setLink l (
    if (s.link l).output.length < 4 then
      { s.link l with output := (s.link l).output ++ [responseFrame echo k p], held := none }
    else { s.link l with held := some (.answered (responseFrame echo k p)) })) ∧
  (∀ s : State, s.Ready .line .rackReset → exec .rackReset s = .next (s.answered .line .rackReset .done [])) ∧
  ∀ (echo : Nat) (k : RespCode) (p : List Byte),
    let code : Nat := match k with
      | .done => 0 | .accepted => 1 | .wrongState => 2 | .notPermitted => 3 | .range => 4 | .locked => 5 | .inUse => 6
      | .busy => 7 | .full => 8 | .tooLate => 9 | .duplicate => 10 | .storeError => 11 | .modeProtected => 12
      | .conflict => 13 | .invalidRecipe => 14 | .badFrame => 15 | .overrun => 16 | .unknown => 17
    let covered : List Byte := [BitVec.ofNat 8 p.length, BitVec.ofNat 8 echo, BitVec.ofNat 8 code] ++ p
    responseFrame echo k p = [0xD4#8] ++ covered ++
      [BitVec.ofNat 8 ((crc16 covered).toNat / 256), BitVec.ofNat 8 ((crc16 covered).toNat % 256)]

/-- What a request command does where its link does not hold that request, which is the model's choice (log entry 5): it counts
as the frame that brings it. While the link holds another request it is answered OVERRUN and changes nothing else; on a free
link that Table 1-4 does not mark for it it is answered NOT_PERMITTED (the codes are those of R2); on a free link that Table 1-4
marks it is taken and served at once, as if the link held it. -/
def Obligations.RequestsOnABusyLinkAreOverrun : Prop :=
  ∀ (c : Instr) (l : Link) (s : State), requestLink c = some l →
    (∀ h, (s.link l).held = some h → h ≠ .passed c →
      exec c s = .next (s.setLink l { s.link l with
        output := if (s.link l).output.length < 4 then (s.link l).output ++ [responseFrame (requestCode c) .overrun []]
          else (s.link l).output })) ∧
    ((s.link l).held = none → (s.link l).output.length < 4 → permitted (requestCode c) l = false →
      exec c s = .next ((if storeCode (requestCode c) then s.clearOverride else s).answered l c .notPermitted [])) ∧
    ((s.link l).held = none → permitted (requestCode c) l = true →
      exec c s = exec c (s.setLink l { s.link l with held := some (.passed c) }))

/-- R3, R5: a request that its owning block serves is answered, or stays held; and a refusal leaves everything as it was, but
for the lock override flag, which the refusal of a Section 7 request clears (R116). -/
def Obligations.RefusedRequestsChangeNothing : Prop :=
  ∀ (c : Instr) (l : Link) (s : State), requestLink c = some l → s.Ready l c → ¬ (∃ i, s.offAsked i) →
    (∃ k payload t, exec c s = .next (t.answered l c k payload) ∧ (t.link l).held = (s.link l).held ∧
      (t.link l).output = (s.link l).output ∧
      (k.success = false → payload = [] ∧ t = if storeCode (requestCode c) then s.clearOverride else s)) ∨
    (∃ t, exec c s = .next t ∧ ((t.link l).held = some (.serving c) ∨ (t.link l).held = some (.passed c)) ∧
      (t.link l).output = (s.link l).output)

/-- R10: TAKE NOTICE takes the pair of the highest level, then the lower kind code, then the lower index, out of its own
link's set, and answers with it; from an empty set it answers NONE. -/
def Obligations.TakeNoticeReturnsTheHighestPair : Prop :=
  ∀ (l : Link) (s : State), s.Ready l (.takeNotice l) →
    let ls := s.link l
    (ls.notices = [] →
      exec (.takeNotice l) s = .next (s.answered l (.takeNotice l) .done [0#8, 255#8, 0#8, 0#8])) ∧
    (ls.notices ≠ [] → ∃ p ∈ ls.notices,
      (∀ q ∈ ls.notices, ls.level q.1 < ls.level p.1 ∨ (ls.level q.1 = ls.level p.1 ∧
        (p.1.code < q.1.code ∨ (p.1.code = q.1.code ∧ p.2 ≤ q.2)))) ∧
      exec (.takeNotice l) s = .next
        ((s.setLink l { ls with
            notices := ls.notices.erase p
            attention := (ls.notices.erase p).any fun q => decide (ls.mask < ls.level q.1) }).answered
          l (.takeNotice l) .done
          [byteOf p.1.code, byteOf p.2, byteOf (ls.level p.1), byteOf (min 255 (ls.notices.length - 1))]))

/-- R11: SET LEVELS checks its whole list first, then sets every named level, removes the pending pairs of every kind set to
level 0 and re-evaluates the attention line. -/
def Obligations.SetLevelsSetsEveryNamedLevel : Prop :=
  ∀ (l : Link) (es : List (Nat × Nat)) (s : State), s.Ready l (.setLevels l es) →
    let ls := s.link l
    let legal : Prop := 1 ≤ es.length ∧ es.length ≤ 18 ∧ (es.map (·.1)).Nodup ∧
      ∀ e ∈ es, e.2 ≤ 15 ∧ ∃ k : NoticeKind, k.code = e.1 ∧ k.recordedOn l = true
    (¬ legal → exec (.setLevels l es) s = .next (s.answered l (.setLevels l es) .range [])) ∧
    (legal → ∃ ls' : LinkState,
      exec (.setLevels l es) s = .next ((s.setLink l ls').answered l (.setLevels l es) .done []) ∧
      (∀ e ∈ es, ∀ k : NoticeKind, k.code = e.1 → ls'.level k = e.2) ∧
      (∀ k : NoticeKind, k.code ∉ es.map (·.1) → ls'.level k = ls.level k) ∧
      ls' = { ls with
        levels := ls'.levels
        notices := ls.notices.filter fun p => !(es.any fun e => e.1 == p.1.code && e.2 == 0)
        attention := ls'.notices.any fun p => decide (ls.mask < ls'.level p.1) })

/-- R12: SET MASK sets the mask level of its own link and re-evaluates the attention line; a level above 15 is refused. -/
def Obligations.SetMaskSetsTheMask : Prop :=
  ∀ (l : Link) (m : Nat) (s : State), s.Ready l (.setMask l m) →
    exec (.setMask l m) s = .next (
      if m ≤ 15 then
        (s.setLink l { s.link l with
          mask := m
          attention := (s.link l).notices.any fun p => decide (m < (s.link l).level p.1) }).answered l (.setMask l m) .done []
      else s.answered l (.setMask l m) .range [])

/-- R8, R9: a posted notice joins the set of each link that records its kind at a level above 0 and does not hold the pair,
with the attention line re-evaluated; every other link, and everything else, is unchanged. Then Table 1-6: the code of each kind
and the links that record it. -/
def Obligations.PostedNoticesJoinTheirLinks : Prop :=
  (let row : NoticeKind → Nat × List Link
    | .loaded => (1, [.test]) | .spunUp => (2, [.test]) | .stageDue => (3, [.test]) | .deadline => (4, [.test])
    | .quietAsk => (5, [.test]) | .resume => (6, [.test]) | .disturbed => (7, [.test]) | .overtemp => (8, [.test, .line])
    | .sensorStale => (9, [.test, .line]) | .driveLost => (10, [.test, .handler, .line]) | .grant => (11, [.handler])
    | .accessEnded => (12, [.handler]) | .holdOverrun => (13, [.handler, .test]) | .unloadReady => (14, [.handler])
    | .toteFull => (15, [.handler, .line]) | .dispatchStall => (16, [.line]) | .storeDone => (17, [.line])
    | .storeFailed => (18, [.line])
  ∀ k : NoticeKind, k.code = (row k).1 ∧ ∀ l, k.recordedOn l = true ↔ l ∈ (row k).2) ∧
  ∀ (k : NoticeKind) (n : Nat) (s : State),
    s.post k n = { s with
      testLink := (s.post k n).testLink, handlerLink := (s.post k n).handlerLink, lineLink := (s.post k n).lineLink } ∧
    ∀ l, (s.post k n).link l =
      if k.recordedOn l = false ∨ (s.link l).level k = 0 ∨ (k, n) ∈ (s.link l).notices then s.link l
      else { s.link l with
        notices := (s.link l).notices ++ [(k, n)]
        attention := ((s.link l).notices ++ [(k, n)]).any fun p => decide ((s.link l).mask < (s.link l).level p.1) }

/-- What a link keeps: the attention line follows its condition (R9), the output list holds at most four frames and a
response waits only for a full list (R4), a pair stands in the set at most once, at a level of 1 or more, on a link that
records it (R8, R11), and the receiver's frame stays within its length (R1). -/
def Obligations.LinkLawsAreKept : Prop :=
  ∀ s t : State, Lawful s → step s = .next t →
    LinkLaws .test t.testLink ∧ LinkLaws .handler t.handlerLink ∧ LinkLaws .line t.lineLink

/-- What holds a request: START, ADVANCE and FINISH exactly while their fetch is in flight, POWER OFF while its order is, so
that at most one fetch is in flight (R3, R55, R61, R64, R41, 7.7). -/
def Obligations.HeldRequestsMatchTheirWork : Prop :=
  ∀ s t : State, Lawful s → step s = .next t → HoldLaws t

/-! ### Section 2: rack time and stage deadlines -/

/-- R18, R20, R22, R25, R108: a millisecond of the reference oscillator advances rack time, which holds at its maximum, and the
tick phase; at 1000 an accounting tick is delivered. SET TIME replaces rack time and clears the time-unset flag. Each then
compares the watch list: an entry that rack time reaches or passes becomes absent, and its expiry is on its way; DONE to
SET TIME is in the output list before SSQ serves that expiry, which is the model's choice (log entry 28). A tick that is served
puts a part for every slot on its way. -/
def Obligations.ClockAdvancesTicksAndFiresDeadlines : Prop :=
  (∀ s : State, exec .rackTimeAdvance s = .next { s with
    rck := { s.rck with
      osc := s.rck.osc + 1
      time := if s.rck.time.millis < 999 then ⟨s.rck.time.seconds, s.rck.time.millis + 1⟩
        else if s.rck.time.seconds < 4294967295 then ⟨s.rck.time.seconds + 1, 0⟩ else s.rck.time
      tickPhase := if s.rck.tickPhase + 1 < 1000 then s.rck.tickPhase + 1 else 0 }
    ticks := if s.rck.tickPhase + 1 < 1000 then s.ticks else s.ticks + 1 }.compareDeadlines) ∧
  (∀ (t m : Nat) (s : State), s.Ready .line (.setTime t m) →
    exec (.setTime t m) s = .next (
      if t ≤ 4294967295 ∧ m ≤ 999 then
        ({ s with rck := { s.rck with time := ⟨t, m⟩, unset := false } }.compareDeadlines).answered
          .line (.setTime t m) .done []
      else s.answered .line (.setTime t m) .range [])) ∧
  (∀ s : State, s.compareDeadlines = { s with
      rck := { s.rck with watch := s.compareDeadlines.rck.watch }, mail := s.compareDeadlines.mail } ∧
    ∀ i, (tget s.rck.watch i = none →
        tget s.compareDeadlines.rck.watch i = none ∧ s.compareDeadlines.mailOf i = s.mailOf i) ∧
      ∀ d, tget s.rck.watch i = some d →
        if d.time.seconds < s.rck.time.seconds ∨
            (s.rck.time.seconds = d.time.seconds ∧ d.time.millis ≤ s.rck.time.millis) then
          tget s.compareDeadlines.rck.watch i = none ∧
          s.compareDeadlines.mailOf i = { s.mailOf i with deadlines := (s.mailOf i).deadlines ++ [d] }
        else tget s.compareDeadlines.rck.watch i = some d ∧ s.compareDeadlines.mailOf i = s.mailOf i) ∧
  ∀ s : State, (s.ticks = 0 → exec .accountingTick s = .next s) ∧
    (0 < s.ticks → ∃ t, exec .accountingTick s = .next t ∧ t = { s with ticks := s.ticks - 1, mail := t.mail } ∧
      ∀ i, t.mailOf i = { s.mailOf i with credits := (s.mailOf i).credits + 1 })

/-- R26: a deadline expiry that finds its slot RUNNING the stage and the deadline it carries marks OVERTIME on that stage and
posts DEADLINE; any other is stale and changes nothing but that it has been served. -/
def Obligations.DeadlineExpiryMarksOvertime : Prop :=
  ∀ (i : Slot) (s : State) (d : Deadline) (rest : List Deadline), (s.mailOf i).deadlines = d :: rest →
    let u := s.setMail i { s.mailOf i with deadlines := rest }
    let r := s.slot i
    let holds : Prop := r.state = .running ∧ r.stage = d.stage ∧ ∃ c, r.context = some c ∧ c.deadline = some d.time
    (¬ holds → exec (.deadlineExpiry i) s = .next u) ∧
    (holds → ∃ marks, exec (.deadlineExpiry i) s = .next ((u.putSlot i { r with marks := marks }).post .deadline i.val) ∧
      marks.length = r.marks.length ∧
      ∀ n m, r.marks[n]? = some m → marks[n]? = some (if n = r.stage then { m with overtime := true } else m))

/-- What RCK and SIF keep: rack time and the tick phase in range, an armed deadline only at a slot RUNNING the stage it
belongs to and not yet reached (R18, R22, R24, R25, R27), and the filter's runs and settings in range (R31, R34). -/
def Obligations.ClockAndInputLawsAreKept : Prop :=
  ∀ s t : State, Lawful s → step s = .next t → ClockLaws t ∧ InputLaws t.sif

/-! ### Section 3: slot inputs and drive power -/

/-- R30 to R33: a sample that is due reads every input through its group's polarity; an input that reads its accepted level
restarts its run, and the third reading in a row of the opposite level is accepted and delivered with the current rack time,
as a start-up change exactly at the third sample (log entry 24); each change goes to SSQ and to QAC. -/
def Obligations.SampleAcceptsAtTheThirdReading : Prop :=
  ∀ (p q : BitVec 24) (s : State),
    (s.rck.osc < s.sif.lastSampleAt + s.sif.interval → exec (.sample p q) s = .next s) ∧
    (s.sif.lastSampleAt + s.sif.interval ≤ s.rck.osc → ∃ t, exec (.sample p q) s = .next t ∧
      t = { s with
        sif := { s.sif with
          presence := t.sif.presence, latch := t.sif.latch
          startUpCount := min 3 (s.sif.startUpCount + 1), lastSampleAt := s.rck.osc }
        mail := t.mail } ∧
      ∀ i : Slot,
        let reads (polarity : Polarity) (raw : BitVec 24) : Bool :=
          if polarity = .activeLow then !raw.getLsbD i.val else raw.getLsbD i.val
        let after (f : InputFilter) (level : Bool) : InputFilter :=
          if level = f.accepted then ⟨f.accepted, 0⟩ else if f.run < 2 then ⟨f.accepted, f.run + 1⟩ else ⟨level, 0⟩
        let change (f : InputFilter) (level : Bool) : List InputChange :=
          if level ≠ f.accepted ∧ 2 ≤ f.run then [⟨level, s.rck.time, decide (s.sif.startUpCount = 2)⟩] else []
        let fp := tget s.sif.presence i
        let fl := tget s.sif.latch i
        let lp := reads s.sif.presencePolarity p
        let ll := reads s.sif.latchPolarity q
        tget t.sif.presence i = after fp lp ∧ tget t.sif.latch i = after fl ll ∧
        t.mailOf i = { s.mailOf i with
          presenceToSsq := (s.mailOf i).presenceToSsq ++ change fp lp
          presenceToQac := (s.mailOf i).presenceToQac ++ change fp lp
          latchToSsq := (s.mailOf i).latchToSsq ++ change fl ll
          latchToQac := (s.mailOf i).latchToQac ++ change fl ll })

/-- R38: at a look at the start conditions PSQ starts the slots at the head of the queue, in order, as many as lanes are free
below the budget; each takes a lane, its output on and its timer running for the spin-up time in force, and its start is
reported to SSQ. Afterwards the queue is empty or no lane is free. -/
def Obligations.SpinUpsStartFromTheQueueHead : Prop :=
  ∀ s : State, s.psq.queue.Nodup →
    let k := min s.psq.queue.length (s.psq.budget - s.psq.lanes)
    let t := s.lookAtQueue
    t = { s with psq := { s.psq with slots := t.psq.slots, queue := s.psq.queue.drop k, lanes := s.psq.lanes + k },
                 mail := t.mail } ∧
    ∀ i, (i ∈ s.psq.queue.take k →
        t.power i = ⟨.spinUp, true, some (s.rck.osc + s.psq.upTime * 1000)⟩ ∧
        t.mailOf i = { s.mailOf i with reports := (s.mailOf i).reports ++ [.started] }) ∧
      (i ∉ s.psq.queue.take k → t.power i = s.power i ∧ t.mailOf i = s.mailOf i)

/-- R37, R41: POWER ON of a LOADED slot with its latch shut makes it SPINUP_WAIT and puts it at the tail of the queue, whose
start conditions are then looked at; orders that SSQ gave before for the slot reach PSQ first (3.4). POWER OFF of a slot in
SPINUP_WAIT, SPINUP or READY gives PSQ a power-off order and waits for its outcome. -/
def Obligations.PowerOnAndPowerOff : Prop :=
  (∀ (n : Nat) (s : State), s.Ready .test (.powerOn n) →
    (24 ≤ n → exec (.powerOn n) s = .next (s.answered .test (.powerOn n) .range [])) ∧
    ∀ i : Slot, i.val = n →
      ((s.slot i).state ≠ .loaded ∨ (s.slot i).closed = false →
        exec (.powerOn n) s = .next (s.answered .test (.powerOn n) .wrongState [])) ∧
      ((s.slot i).state = .loaded → (s.slot i).closed = true → ¬ s.offAsked i →
        let u := State.runOrders i (s.mailOf i).orders s
        let v := u.putSlot i { u.slot i with state := .spinUpWait }
        (u.power i).phase = .off →
        exec (.powerOn n) s = .next (({ v with psq := { v.psq with
          slots := tset v.psq.slots i ⟨.queued, false, none⟩, queue := v.psq.queue ++ [i] } }.lookAtQueue).answered
            .test (.powerOn n) .done []))) ∧
  ∀ (n : Nat) (s : State), s.Ready .test (.powerOff n) →
    (24 ≤ n → exec (.powerOff n) s = .next (s.answered .test (.powerOff n) .range [])) ∧
    ∀ i : Slot, i.val = n →
      let r := s.slot i
      exec (.powerOff n) s = .next (
        if r.state = .spinUpWait ∨ r.state = .spinUp ∨ r.state = .ready then
          (s.setMail i { s.mailOf i with orders := (s.mailOf i).orders ++ [.powerOff true] }).setLink .test
            { s.testLink with held := some (.serving (.powerOff n)) }
        else s.answered .test (.powerOff n) .wrongState [])

/-- R42, R44, R46: what PSQ does with each order, by the slot's power phase; the queue is looked at afterwards, SSQ takes the
outcome of a power-off order, and a POWER OFF that waits on it is answered. -/
def Obligations.PowerOrdersCutByPhase : Prop :=
  ∀ (i : Slot) (s : State),
    let p := s.psq
    let u := s.setMail i { s.mailOf i with orders := (s.mailOf i).orders.tail }
    let off : PowerSlot := ⟨.off, false, none⟩
    let down : PowerSlot := ⟨.spinDown, false, some (s.rck.osc + p.downTime * 1000)⟩
    let write (x : PowerSlot) (q : List Slot) (lanes : Nat) : State :=
      { u with psq := { p with slots := tset p.slots i x, queue := q, lanes := lanes } }
    (∀ q rest, (s.mailOf i).orders = .powerOff q :: rest →
      let out (v : State) (r : SlotRecord) : State :=
        let w := if (s.slot i).state = .spinUpWait ∨ (s.slot i).state = .spinUp ∨ (s.slot i).state = .ready then
          v.lookAtQueue.putSlot i r else v.lookAtQueue
        if q then w.respond .test 0x11 .done [] else w
      let withdrawn : SlotRecord := { s.slot i with state := .loaded }
      let spinning : SlotRecord := { s.slot i with state := .spinDown, exit := .loaded }
      exec (.powerOffOrder i) s = .next (match (s.power i).phase with
        | .queued => out (write off (p.queue.erase i) p.lanes) withdrawn
        | .spinUp => out (write down p.queue (p.lanes - 1)) spinning
        | .on => out (write down p.queue p.lanes) spinning
        | .off => out u withdrawn
        | .spinDown => out u spinning)) ∧
    (∀ rest, (s.mailOf i).orders = .spinDown :: rest →
      exec (.spinDownOrder i) s = .next (match (s.power i).phase with
        | .spinUp => (write down p.queue (p.lanes - 1)).lookAtQueue
        | .on => (write down p.queue p.lanes).lookAtQueue
        | _ => u.lookAtQueue)) ∧
    (∀ rest, (s.mailOf i).orders = .release :: rest →
      exec (.releaseOrder i) s = .next (match (s.power i).phase with
        | .queued => (write off (p.queue.erase i) p.lanes).lookAtQueue
        | .spinUp => (write off p.queue (p.lanes - 1)).lookAtQueue
        | .on => (write off p.queue p.lanes).lookAtQueue
        | .spinDown => (write off p.queue p.lanes).lookAtQueue
        | .off => u.lookAtQueue))

/-- R38, R39, R45, R73: a power timer that has run out ends a spin-up, freeing its lane for the queue's head, or a spin-down,
each reported to SSQ; one not yet due does nothing (log entry 2). At SSQ a spin-up start makes a SPINUP_WAIT slot SPINUP, a
spin-up expiry makes a SPINUP slot READY with SPUN_UP posted, a spin-down expiry takes a SPINDOWN slot to LOADED or to dispatch
by its exit; a report that finds another state is stale. -/
def Obligations.PowerTimersAndReports : Prop :=
  (∀ (i : Slot) (s : State) (due : Nat), (s.power i).timer = some due →
    let report (v : State) (r : PowerReport) := v.setMail i { v.mailOf i with reports := (v.mailOf i).reports ++ [r] }
    (s.rck.osc < due → exec (.spinUpTimerExpiry i) s = .next s ∧ exec (.spinDownTimerExpiry i) s = .next s) ∧
    (due ≤ s.rck.osc → (s.power i).phase = .spinUp →
      exec (.spinUpTimerExpiry i) s = .next (report { s with psq := { s.psq with
        slots := tset s.psq.slots i ⟨.on, true, none⟩, lanes := s.psq.lanes - 1 } } .spunUp).lookAtQueue) ∧
    (due ≤ s.rck.osc → (s.power i).phase = .spinDown →
      exec (.spinDownTimerExpiry i) s = .next (report { s with psq := { s.psq with
        slots := tset s.psq.slots i ⟨.off, false, none⟩ } } .spunDown))) ∧
  ∀ (i : Slot) (s : State) (rest : List PowerReport),
    let u := s.setMail i { s.mailOf i with reports := rest }
    let r := s.slot i
    ((s.mailOf i).reports = .started :: rest → exec (.spinUpStartReport i) s = .next (
      if r.state = .spinUpWait then u.putSlot i { r with state := .spinUp } else u)) ∧
    ((s.mailOf i).reports = .spunUp :: rest → exec (.spinUpExpiry i) s = .next (
      if r.state = .spinUp then (u.putSlot i { r with state := .ready }).post .spunUp i.val else u)) ∧
    ((s.mailOf i).reports = .spunDown :: rest → exec (.spinDownExpiry i) s = .next (
      if r.state = .spinDown then
        if r.exit = .loaded then u.putSlot i { r with state := .loaded } else u.dispatch i
      else u))

/-- R34, R35, R40, R47: SET POWER sets the budget and both times and looks at the queue; timers that run keep their expiries.
SET INPUTS sets the interval and both polarities; a polarity that changes restarts every run of its group. -/
def Obligations.SetPowerAndSetInputs : Prop :=
  (∀ (b u d : Nat) (s : State), s.Ready .line (.setPower b u d) →
    exec (.setPower b u d) s = .next (
      if 1 ≤ b ∧ b ≤ 8 ∧ 2 ≤ u ∧ u ≤ 30 ∧ 2 ≤ d ∧ d ≤ 30 then
        ({ s with psq := { s.psq with budget := b, upTime := u, downTime := d } }.lookAtQueue).answered
          .line (.setPower b u d) .done []
      else s.answered .line (.setPower b u d) .range [])) ∧
  ∀ (a b c : Nat) (s : State), s.Ready .line (.setInputs a b c) →
    (3 < a ∨ 1 < b ∨ 1 < c → exec (.setInputs a b c) s = .next (s.answered .line (.setInputs a b c) .range [])) ∧
    (a ≤ 3 → b ≤ 1 → c ≤ 1 → ∃ t : Sif,
      exec (.setInputs a b c) s = .next ({ s with sif := t }.answered .line (.setInputs a b c) .done []) ∧
      t = { s.sif with
        interval := [1, 2, 5, 10].getD a 0
        presencePolarity := if b = 0 then .activeLow else .activeHigh
        latchPolarity := if c = 0 then .activeLow else .activeHigh
        presence := t.presence, latch := t.latch } ∧
      ∀ i : Slot,
        tget t.presence i = { tget s.sif.presence i with
          run := if t.presencePolarity = s.sif.presencePolarity then (tget s.sif.presence i).run else 0 } ∧
        tget t.latch i = { tget s.sif.latch i with
          run := if t.latchPolarity = s.sif.latchPolarity then (tget s.sif.latch i).run else 0 })

/-- What PSQ keeps: the queue holds exactly the QUEUED slots, each once; lanes in use is the number of slots in SPINUP; the
output is on exactly in SPINUP and ON; the timer runs exactly in SPINUP and SPINDOWN; and no slot waits while a lane is free
below the budget (3.4, R38). -/
def Obligations.PowerLawsAreKept : Prop :=
  ∀ s t : State, PowerLaws s.psq → step s = .next t → PowerLaws t.psq

/-! ### Section 4: the slot sequencer -/

/-- R56, R24, R27, R50: the capture of a stage writes its context, resets the phase and the stage credit, sets the quiet state
by the hold count, appends a marks entry, arms the stage's deadline (which fires at once when it is already reached), and is
reported to TAU and, as a change of record, to QAC. -/
def Obligations.CapturesWriteTheStage : Prop :=
  ∀ (i : Slot) (r : SlotRecord) (n : Nat) (e : StageEntry) (s : State),
    let now := s.rck.time
    let deadline : Option RackTime := e.limit.map fun m =>
      if now.seconds + 60 * m ≤ 4294967295 then ⟨now.seconds + 60 * m, now.millis⟩ else ⟨4294967295, 999⟩
    let entry : Option Deadline := deadline.map fun d => ⟨d, n⟩
    let fires : Bool := match deadline with
      | some d => decide (d.seconds < now.seconds ∨ (d.seconds = now.seconds ∧ d.millis ≤ now.millis))
      | none => false
    let r' : SlotRecord := { r with
      state := .running, stage := n, phase := .active, credit := 0, marks := r.marks ++ [⟨false, false⟩]
      quiet := if e.sensitive = true ∧ 1 ≤ tget s.qac.holds i then .quiet else .normal
      context := some { kind := e.kind, sensitive := e.sensitive, suspendable := e.suspendable,
                        target := e.target.map fun t => t * 1920, mode := e.mode, profile := e.profile,
                        deadline := deadline, maxTemp := e.maxTemp } }
    let m := s.mailOf i
    let old := s.slot i
    s.capture i r n e = { s with
      rck := { s.rck with watch := tset s.rck.watch i (if fires then none else entry) }
      slots := tset s.slots i r'
      mail := tset s.mail i { m with
        deadlines := if fires then m.deadlines ++ entry.toList else m.deadlines
        changes := if old.state = r'.state ∧ old.stage = r'.stage ∧ old.quiet = r'.quiet then m.changes else m.changes + 1
        captures := m.captures + 1 } }

/-- R67, R160, R148: a grading writes the grade of the record's evidence, the finished time and the patch generation, releases
the recipe reference, clears the stage context and the quiet state, makes the watch list entry absent, and writes the dispatch
note from the reference (0 and 0 without one). -/
def Obligations.GradingsWriteTheRecord : Prop :=
  ∀ (i : Slot) (r : SlotRecord) (limits : Option Limits) (generation : Nat) (s : State),
    let evidence : Evidence := { fault := r.fault.map (·.1), marks := r.marks, total := r.total, measures := r.measures,
                                 limits := limits }
    let r' : SlotRecord := { r with
      grade := some (gradeOf evidence), finishedAt := some s.rck.time, patchGen := some generation
      recipe := none, context := none, quiet := .normal }
    let m := s.mailOf i
    let old := s.slot i
    s.gradeSlot i r limits generation = { s with
      rck := { s.rck with watch := tset s.rck.watch i none }
      rst := { s.rst with blocks := match r.recipe with
        | some ref => tset s.rst.blocks ref.block { s.block ref.block with refs := (s.block ref.block).refs - 1 }
        | none => s.rst.blocks }
      ttb := { s.ttb with notes := tset s.ttb.notes i (some (match r.recipe with
        | some ref => (ref.id, ref.revision)
        | none => (0, 0))) }
      slots := tset s.slots i r'
      mail := tset s.mail i (if old.state = r'.state ∧ old.stage = r'.stage ∧ old.quiet = r'.quiet then m
        else { m with changes := m.changes + 1 }) }

/-- R53, R55, R61 to R64: SET SERIAL and MEASURE write their field of the record; START, FINISH and an ADVANCE to a further
stage send their fetch and stay held; an ADVANCE past the last stage ends the test at once. Each is refused outside its states
and ranges. -/
def Obligations.TestRequestsOfASlot : Prop :=
  ∀ (n : Nat) (s : State),
    let refused (c : Instr) (k : RespCode) : Prop := exec c s = .next (s.answered .test c k [])
    let fetches (c : Instr) (f : Fetch) : Prop :=
      exec c s = .next ({ s with fetch := .sent f }.setLink .test { s.testLink with held := some (.serving c) })
    (∀ cs, s.Ready .test (.setSerial n cs) →
      let legal : Prop := 1 ≤ cs.length ∧ cs.length ≤ 20 ∧ ∀ b ∈ cs, 0x20 ≤ b.toNat ∧ b.toNat ≤ 0x7E
      (24 ≤ n ∨ ¬ legal → refused (.setSerial n cs) .range) ∧
      ∀ i : Slot, i.val = n → legal →
        let taken : Prop := (s.slot i).state ∈ [.loaded, .spinUpWait, .spinUp, .ready, .running]
        let held : Prop := (∃ j, j ≠ i ∧ (s.slot j).serial = some cs) ∨
          ∃ t b e, (s.tote t).body? = some b ∧ Position.filled e ∈ b.positions ∧ e.serial = some cs
        (¬ taken → refused (.setSerial n cs) .wrongState) ∧
        (taken → held → refused (.setSerial n cs) .duplicate) ∧
        (taken → ¬ held → exec (.setSerial n cs) s =
          .next ((s.putSlot i { s.slot i with serial := some cs }).answered .test (.setSerial n cs) .done []))) ∧
    (∀ m v, s.Ready .test (.measure n m v) →
      (24 ≤ n ∨ 8 ≤ m ∨ 4294967295 < v → refused (.measure n m v) .range) ∧
      ∀ (i : Slot) (k : MeasureId), i.val = n → k.val = m → v ≤ 4294967295 →
        ((s.slot i).state ≠ .running → (s.slot i).state ≠ .complete → refused (.measure n m v) .wrongState) ∧
        ((s.slot i).state = .running ∨ (s.slot i).state = .complete → exec (.measure n m v) s =
          .next ((s.putSlot i { s.slot i with measures := tset (s.slot i).measures k (some v) }).answered
            .test (.measure n m v) .done []))) ∧
    (∀ id, s.Ready .test (.start n id) →
      (24 ≤ n ∨ id = 0 ∨ 65535 < id → refused (.start n id) .range) ∧
      ∀ i : Slot, i.val = n → 1 ≤ id → id ≤ 65535 →
        ((s.slot i).state ≠ .ready ∨ (s.slot i).serial = none → refused (.start n id) .wrongState) ∧
        ((s.slot i).state = .ready → (s.slot i).serial ≠ none → fetches (.start n id) (.start i id))) ∧
    (s.Ready .test (.advance n) →
      (24 ≤ n → refused (.advance n) .range) ∧
      ∀ i : Slot, i.val = n →
        let r := s.slot i
        let owes : Prop := r.phase = .active ∧ ∃ c t, r.context = some c ∧ c.target = some t
        (r.state ≠ .running ∨ owes → refused (.advance n) .wrongState) ∧
        ∀ ref, r.state = .running → ¬ owes → r.recipe = some ref →
          (r.stage + 1 ≠ ref.stages → fetches (.advance n) (.stage i ref.block (r.stage + 1))) ∧
          (r.stage + 1 = ref.stages → exec (.advance n) s =
            .next (({ s with rck := { s.rck with watch := tset s.rck.watch i none } }.putSlot i
              { r with state := .complete, quiet := .normal }).answered .test (.advance n) .done
                [6#8, BitVec.ofNat 8 r.stage, 0#8]))) ∧
    (s.Ready .test (.finish n) →
      (24 ≤ n → refused (.finish n) .range) ∧
      ∀ i : Slot, i.val = n →
        ((s.slot i).state ≠ .complete → refused (.finish n) .wrongState) ∧
        ∀ ref, (s.slot i).state = .complete → (s.slot i).recipe = some ref →
          fetches (.finish n) (.limits i ref.block))

/-- R57, R62, R65: what the answer to each fetch does at SSQ: BUSY and RANGE are passed on; data that finds its slot in the
state of its request makes the capture or the grading, and data that finds another state is refused WRONG_STATE, a start's
reference being given back. -/
def Obligations.FetchAnswersServeTheirRequests : Prop :=
  ∀ s : State,
    let t : State := { s with fetch := .idle }
    (∀ i id, (s.fetch = .answered (.start i id) .busy →
        exec .startFetchAnswer s = .next (t.respond .test 0x19 .busy [])) ∧
      (s.fetch = .answered (.start i id) .range →
        exec .startFetchAnswer s = .next (t.respond .test 0x19 .range [])) ∧
      ∀ b revision stages e, s.fetch = .answered (.start i id) (.start b revision stages e) →
        ((s.slot i).state ≠ .ready → exec .startFetchAnswer s =
          .next ((t.setBlock b { s.block b with refs := (s.block b).refs - 1 }).respond .test 0x19 .wrongState [])) ∧
        ((s.slot i).state = .ready → exec .startFetchAnswer s =
          .next ((t.capture i { s.slot i with
              recipe := some ⟨b, id, revision, stages⟩, total := 0, marks := [], startedAt := some s.rck.time } 0 e).respond
            .test 0x19 .done [if e.sensitive = true ∧ 1 ≤ tget s.qac.holds i then 2#8 else 0#8]))) ∧
    (∀ i b n, (s.fetch = .answered (.stage i b n) .busy →
        exec .stageFetchAnswer s = .next (t.respond .test 0x1A .busy [])) ∧
      ∀ e, s.fetch = .answered (.stage i b n) (.stage e) →
        ((s.slot i).state ≠ .running → exec .stageFetchAnswer s = .next (t.respond .test 0x1A .wrongState [])) ∧
        ((s.slot i).state = .running → exec .stageFetchAnswer s =
          .next ((t.capture i (s.slot i) n e).respond .test 0x1A .done
            [5#8, BitVec.ofNat 8 n, if e.sensitive = true ∧ 1 ≤ tget s.qac.holds i then 2#8 else 0#8]))) ∧
    ∀ i b, (s.fetch = .answered (.limits i b) .busy →
        exec .limitsFetchAnswer s = .next (t.respond .test 0x1C .busy [])) ∧
      ∀ table credit generation, s.fetch = .answered (.limits i b) (.limits table credit generation) →
        ((s.slot i).state ≠ .complete → exec .limitsFetchAnswer s = .next (t.respond .test 0x1C .wrongState [])) ∧
        ((s.slot i).state = .complete → ∃ bin reason,
          let u := t.gradeSlot i { s.slot i with state := .spinDown, exit := .dispatch } (some ⟨table, credit⟩) generation
          (u.slot i).grade = some (bin, reason) ∧
          exec .limitsFetchAnswer s =
            .next ((u.setMail i { u.mailOf i with orders := (u.mailOf i).orders ++ [.spinDown] }).respond .test 0x1C .done
              [BitVec.ofNat 8 bin.code, BitVec.ofNat 8 reason.code, BitVec.ofNat 8 reason.argument]))

/-- R66, R69: ABORT records its fault and grades the drive without limits: a LOADED one goes to dispatch, a powered one to
SPINDOWN with a spin-down order to PSQ; an overtemperature event does the same to a RUNNING slot and posts OVERTEMP, and is
stale otherwise. -/
def Obligations.FaultsGradeTheDrive : Prop :=
  ∀ s : State,
    let graded (u : State) (i : Slot) (k : FaultKind) : State :=
      u.gradeSlot i { s.slot i with fault := some (k, s.rck.time) } none s.pcu.generation
    let spunDown (u : State) (i : Slot) (k : FaultKind) : State :=
      let t := u.gradeSlot i { s.slot i with fault := some (k, s.rck.time), state := .spinDown, exit := .dispatch }
        none s.pcu.generation
      t.setMail i { t.mailOf i with orders := (t.mailOf i).orders ++ [.spinDown] }
    (∀ n m, s.Ready .test (.abort n m) →
      (24 ≤ n ∨ 2 ≤ m → exec (.abort n m) s = .next (s.answered .test (.abort n m) .range [])) ∧
      ∀ i : Slot, i.val = n → m < 2 →
        let k : FaultKind := if m = 0 then .testAbort else .driveFail
        let result (t : State) : List Byte := match (t.slot i).grade with
          | some g => [BitVec.ofNat 8 g.1.code, BitVec.ofNat 8 g.2.code, BitVec.ofNat 8 g.2.argument]
          | none => []
        exec (.abort n m) s = .next (
          if (s.slot i).state = .loaded then
            ((graded s i k).dispatch i).answered .test (.abort n m) .done (result (graded s i k))
          else if (s.slot i).state = .ready ∨ (s.slot i).state = .running ∨ (s.slot i).state = .complete then
            (spunDown s i k).answered .test (.abort n m) .done (result (spunDown s i k))
          else s.answered .test (.abort n m) .wrongState [])) ∧
    ∀ i : Slot, ((s.mailOf i).overtemps = 0 → exec (.overtempEvent i) s = .next s) ∧
      (0 < (s.mailOf i).overtemps →
        let u := s.setMail i { s.mailOf i with overtemps := (s.mailOf i).overtemps - 1 }
        exec (.overtempEvent i) s = .next (
          if (s.slot i).state = .running then (spunDown u i .overtemp).post .overtemp i.val else u))

/-- R49, R51, R70, R43, R52, R68: presence and latch changes at SSQ. A drive that arrives in an EMPTY slot makes it LOADED
unless a load access is GRANTED for it (a start-up change is never ungranted); one that leaves outside a granted UNLOAD is lost:
a release order, the release of its place at TTB, the record cleared, DRIVE_LOST. An opened latch withdraws a waiting drive and
grades a spinning one LATCH_OPEN; QAC takes a latch change in the step of SSQ, without effect (R94, log entry 19). -/
def Obligations.InputChangesAtTheSlot : Prop :=
  ∀ (i : Slot) (s : State),
    let m := s.mailOf i
    let r := s.slot i
    let granted (a : Action) : Prop := ∃ k u p o, tget s.qac.records k = .granted u p o ∧ u.target = i ∧ u.action = a
    (∀ stamp startUp rest, m.presenceToSsq = ⟨true, stamp, startUp⟩ :: rest →
      let u := s.setMail i { m with presenceToSsq := rest }
      let t := u.putSlot i { r with present := true }
      let loaded (ungranted : Bool) : State := (t.putSlot i { r with
        present := true, state := .loaded, ungranted := ungranted, loadedAt := some s.rck.time }).post .loaded i.val
      (r.state ≠ .empty → exec (.presencePresentAtSsq i) s = .next t) ∧
      (r.state = .empty → startUp = true → exec (.presencePresentAtSsq i) s = .next (loaded false)) ∧
      (r.state = .empty → startUp = false → granted .load → exec (.presencePresentAtSsq i) s = .next t) ∧
      (r.state = .empty → startUp = false → ¬ granted .load →
        exec (.presencePresentAtSsq i) s = .next (loaded true))) ∧
    (∀ stamp startUp rest, m.presenceToSsq = ⟨false, stamp, startUp⟩ :: rest →
      let u := s.setMail i { m with presenceToSsq := rest }
      let t := u.putSlot i { r with present := false }
      let ordered := t.setMail i { t.mailOf i with orders := m.orders ++ [.release] }
      let left := if r.state = .dispatchWait then ordered.leaveQueue i
        else if r.state = .unload then ordered.releaseReservation i else ordered
      (r.state = .empty ∨ (r.state = .unload ∧ granted .unload) →
        exec (.presenceAbsentAtSsq i) s = .next t) ∧
      (r.state ≠ .empty → ¬ (r.state = .unload ∧ granted .unload) →
        exec (.presenceAbsentAtSsq i) s = .next ((left.clearSlot i).post .driveLost i.val) ∧
        (left.clearSlot i).slot i = { SlotRecord.reset with present := false, closed := r.closed })) ∧
    (∀ stamp startUp rest, m.latchToSsq = ⟨true, stamp, startUp⟩ :: rest →
      exec (.latchClosedAtSsq i) s =
        .next ((s.setMail i { m with latchToSsq := rest, latchToQac := m.latchToQac.tail }).putSlot i
          { r with closed := true })) ∧
    ∀ stamp startUp rest, m.latchToSsq = ⟨false, stamp, startUp⟩ :: rest →
      let u := s.setMail i { m with latchToSsq := rest, latchToQac := m.latchToQac.tail }
      let t := u.putSlot i { r with closed := false }
      let g := t.gradeSlot i { r with
        closed := false, fault := some (.latchOpen, s.rck.time), state := .spinDown, exit := .dispatch } none s.pcu.generation
      exec (.latchOpenAtSsq i) s = .next (
        if r.state = .spinUpWait then t.setMail i { t.mailOf i with orders := m.orders ++ [.powerOff false] }
        else if r.state = .spinUp ∨ r.state = .ready ∨ r.state = .running ∨ r.state = .complete then
          g.setMail i { g.mailOf i with orders := m.orders ++ [.spinDown] }
        else t)

/-- R59, R60: the quiet and disturbance orders at SSQ. ASK makes a held slot RUNNING a sensitive, suspendable stage in NORMAL
ASKED, with QUIET_ASK; RELEASE makes one that is not NORMAL and no longer held NORMAL, with RESUME; a disturbance marks the
current stage of one that is not QUIET, with DISTURBED. Each is stale otherwise. -/
def Obligations.QuietOrdersAtTheSlot : Prop :=
  ∀ (i : Slot) (s : State),
    let m := s.mailOf i
    let r := s.slot i
    let sensitive : Prop := r.state = .running ∧ ∃ c, r.context = some c ∧ c.sensitive = true
    let suspendable : Prop := ∃ c, r.context = some c ∧ c.suspendable = true
    (m.asks = 0 → exec (.askOrder i) s = .next s) ∧
    (m.releases = 0 → exec (.releaseQuietOrder i) s = .next s) ∧
    (m.disturbances = 0 → exec (.disturbanceOrder i) s = .next s) ∧
    (0 < m.asks →
      let u := s.setMail i { m with asks := m.asks - 1 }
      let applies : Prop := sensitive ∧ suspendable ∧ r.quiet = .normal ∧ 1 ≤ tget s.qac.holds i
      (¬ applies → exec (.askOrder i) s = .next u) ∧
      (applies → exec (.askOrder i) s = .next ((u.putSlot i { r with quiet := .asked }).post .quietAsk i.val))) ∧
    (0 < m.releases →
      let u := s.setMail i { m with releases := m.releases - 1 }
      let applies : Prop := sensitive ∧ r.quiet ≠ .normal ∧ tget s.qac.holds i = 0
      (¬ applies → exec (.releaseQuietOrder i) s = .next u) ∧
      (applies → exec (.releaseQuietOrder i) s = .next ((u.putSlot i { r with quiet := .normal }).post .resume i.val))) ∧
    (0 < m.disturbances →
      let u := s.setMail i { m with disturbances := m.disturbances - 1 }
      let applies : Prop := sensitive ∧ r.quiet ≠ .quiet
      (¬ applies → exec (.disturbanceOrder i) s = .next u) ∧
      (applies → ∃ marks : List Marks,
        exec (.disturbanceOrder i) s = .next ((u.putSlot i { r with marks := marks }).post .disturbed i.val) ∧
        marks.length = r.marks.length ∧
        ∀ n k, r.marks[n]? = some k → marks[n]? = some (if n = r.stage then { k with disturbed := true } else k)))

/-- What a slot record keeps: the fields its state calls for and no others (Table 4-1, R49, R56, R58, R59, R67). -/
def Obligations.SlotRecordLawsAreKept : Prop :=
  ∀ s t : State, Lawful s → step s = .next t → ∀ i, RecordLaws (t.slot i)

/-- R54: no serial stands in two slots, in a slot and a tote position, or in two tote positions. -/
def Obligations.SerialsStayDistinct : Prop :=
  ∀ s t : State, SerialLaws s → step s = .next t → SerialLaws t

/-! ### Section 5: quiet access -/

/-- R77: the zone of a target: the slots above and below it, and on its shelf those beside it (NEAR) or all others (SHELF). -/
def Obligations.ZonesHoldTheNeighbours : Prop :=
  ∀ i j : Slot,
    (j ∈ zoneOf .near i ↔ j.val = i.val + 6 ∨ i.val = j.val + 6 ∨
      (j.val / 6 = i.val / 6 ∧ (j.val = i.val + 1 ∨ i.val = j.val + 1))) ∧
    (j ∈ zoneOf .shelf i ↔ j.val = i.val + 6 ∨ i.val = j.val + 6 ∨ (j.val / 6 = i.val / 6 ∧ j ≠ i)) ∧
    (zoneOf .near i).Nodup ∧ (zoneOf .shelf i).Nodup

/-- R80, R81, R82, R79: ACCESS REQUEST takes the free record of the lower id: PENDING, the quiet timeout running, the holds of
the zone raised, an ASK order for each zone slot that can be suspended, and the grant condition looked at at once. The answer
carries the record, its state and the reserved tote position of an unload. A request that would be granted at once while a
presence change of its target has been served at only one of SSQ and QAC stays held (R94, log entry 23). -/
def Obligations.AccessRequestsTakeARecord : Prop :=
  ∀ (n m : Nat) (s : State), s.Ready .handler (.accessRequest n m) →
    let refused (k : RespCode) : Prop := exec (.accessRequest n m) s = .next (s.answered .handler (.accessRequest n m) k [])
    (24 ≤ n ∨ 2 ≤ m → refused .range) ∧
    ∀ (i : Slot) (a : Machine.Action), i.val = n → (a = .load ∧ m = 0 ∨ a = .unload ∧ m = 1) →
      let stands : Prop := (a = .load → (s.slot i).state = .empty) ∧ (a = .unload → (s.slot i).state = .unload)
      let targeted : Prop := ∃ r u, (s.access r).use? = some u ∧ u.target = i
      (¬ stands ∨ targeted → refused .wrongState) ∧
      (stands → ¬ targeted → s.access 0 ≠ .free → s.access 1 ≠ .free → refused .full) ∧
      ∀ r : Fin 2, stands → ¬ targeted → s.access r = .free → (r = 1 → s.access 0 ≠ .free) →
        let zone := zoneOf s.qac.mode i
        let u : AccessUse := ⟨i, a, zone, s.rck.time, some (s.rck.osc + s.qac.timeout * 1000)⟩
        let clear : Bool := zone.all fun j => !(s.slot j).exposed
        let waits : Prop := clear = true ∧ (s.mailOf i).presenceToSsq ≠ (s.mailOf i).presenceToQac
        (waits → exec (.accessRequest n m) s = .next s) ∧
        let t : State := { s with
          qac := { s.qac with
            records := tset s.qac.records r (if clear then
                .granted { u with timer := some (s.rck.osc + s.qac.limit * 1000) } (s.slot i).present false
              else .pending u)
            holds := tof fun j => if j ∈ zone then tget s.qac.holds j + 1 else tget s.qac.holds j }
          mail := tof fun j => if j ∈ zone ∧ (s.slot j).askable = true then
            { s.mailOf j with asks := (s.mailOf j).asks + 1 } else s.mailOf j }
        ¬ waits → ∃ place : List Byte,
          exec (.accessRequest n m) s = .next ((if clear then t.post .grant i.val else t).answered
            .handler (.accessRequest n m) .done ([BitVec.ofNat 8 r.val, if clear then 2#8 else 1#8] ++ place)) ∧
          (a = .load → place = [255#8, 0#8]) ∧
          (a = .unload → ∀ (k : ToteNo) (b : ToteBody) (p : Nat), (s.tote k).open? = some b →
            b.positions[p]? = some (.reserved i) →
            (∀ k' b' p', (s.tote k').open? = some b' → b'.positions[p']? = some (.reserved i) → k' = k ∧ p' = p) →
            place = [BitVec.ofNat 8 k.val, BitVec.ofNat 8 (p + 1)])

/-- R87, R89 to R93: ACCESS CANCEL frees a PENDING record. ACCESS DONE waits until the target's presence changes have been
served (log entry 16); then, by the fields as they are after the wait (log entry 26), it ends a GRANTED access as placed or abandoned if the target's fields allow it, frees the record and answers the
overrun flag and the start time. A freed record lowers the holds of its zone, and a slot whose count reaches 0 is given a
RELEASE order. -/
def Obligations.AccessesEndAndReleaseTheirHolds : Prop :=
  ∀ s : State,
    let freed (v : State) (r : Fin 2) (zone : List Slot) : State := { v with
      qac := { v.qac with
        records := tset v.qac.records r .free
        holds := tof fun j => if j ∈ zone then tget v.qac.holds j - 1 else tget v.qac.holds j }
      mail := tof fun j => if j ∈ zone ∧ tget v.qac.holds j - 1 = 0 then
        { v.mailOf j with releases := (v.mailOf j).releases + 1 } else v.mailOf j }
    let refused (c : Instr) (k : RespCode) : Prop := exec c s = .next (s.answered .handler c k [])
    (∀ n, s.Ready .handler (.accessCancel n) →
      (2 ≤ n → refused (.accessCancel n) .range) ∧
      ∀ r : Fin 2, r.val = n →
        ((∀ u, s.access r ≠ .pending u) → refused (.accessCancel n) .wrongState) ∧
        ∀ u, s.access r = .pending u → exec (.accessCancel n) s =
          .next ((freed s r u.zone).answered .handler (.accessCancel n) .done [])) ∧
    ∀ n o, s.Ready .handler (.accessDone n o) →
      (2 ≤ n ∨ 2 ≤ o → refused (.accessDone n o) .range) ∧
      ∀ r : Fin 2, r.val = n → o < 2 →
        ((∀ u p x, s.access r ≠ .granted u p x) → refused (.accessDone n o) .wrongState) ∧
        ∀ u p x, s.access r = .granted u p x →
          let i := u.target
          let f := s.slot i
          let served : Prop := (s.mailOf i).presenceToSsq = [] ∧ (s.mailOf i).presenceToQac = []
          let ends (v : State) : Prop := exec (.accessDone n o) s = .next ((freed v r u.zone).answered
            .handler (.accessDone n o) .done ((if x then 1#8 else 0#8) :: (be32 u.start.seconds ++ be16 u.start.millis)))
          (¬ served → exec (.accessDone n o) s = .next s) ∧
          (served → o = 1 → f.present = p → ends s) ∧
          (served → o = 1 → f.present ≠ p → refused (.accessDone n o) .wrongState) ∧
          (served → o = 0 → u.action = .load → f.present = true → f.closed = true →
            ends (if f.state = .empty then
              (s.putSlot i { f with state := .loaded, ungranted := false, loadedAt := some s.rck.time }).post .loaded i.val
            else s)) ∧
          (served → o = 0 → u.action = .load → ¬ (f.present = true ∧ f.closed = true) →
            refused (.accessDone n o) .wrongState) ∧
          (served → o = 0 → u.action = .unload → f.present = false →
            ends (if f.state = .unload then (s.fillReservation i).clearSlot i else s)) ∧
          (served → o = 0 → u.action = .unload → f.present = true → refused (.accessDone n o) .wrongState)

/-- R83, R59, R96: QUIET makes an ASKED slot QUIET, confirms a QUIET one, and comes too late for any other; SET QUIET sets the
zone mode and both times while both records are FREE. -/
def Obligations.QuietAndSetQuiet : Prop :=
  ∀ s : State,
    (∀ n, s.Ready .test (.quiet n) →
      (24 ≤ n → exec (.quiet n) s = .next (s.answered .test (.quiet n) .range [])) ∧
      ∀ i : Slot, i.val = n →
        let r := s.slot i
        let sensitive : Prop := r.state = .running ∧ ∃ c, r.context = some c ∧ c.sensitive = true
        (sensitive → r.quiet = .asked → exec (.quiet n) s =
          .next ((s.putSlot i { r with quiet := .quiet }).answered .test (.quiet n) .done [])) ∧
        (sensitive → r.quiet = .quiet → exec (.quiet n) s = .next (s.answered .test (.quiet n) .done [])) ∧
        (¬ sensitive ∨ r.quiet = .normal → exec (.quiet n) s = .next (s.answered .test (.quiet n) .tooLate []))) ∧
    ∀ m t h, s.Ready .line (.setQuiet m t h) →
      exec (.setQuiet m t h) s = .next (
        if m ≤ 1 ∧ 1 ≤ t ∧ t ≤ 60 ∧ 5 ≤ h ∧ h ≤ 120 then
          if s.access 0 = .free ∧ s.access 1 = .free then
            { s with qac := { s.qac with mode := if m = 0 then .near else .shelf, timeout := t, limit := h } }.answered
              .line (.setQuiet m t h) .done []
          else s.answered .line (.setQuiet m t h) .wrongState []
        else s.answered .line (.setQuiet m t h) .range [])

/-- R84 to R86, R88, R94, R95: QAC's events. A slot's report ends a PENDING access whose target has left the state it needs,
and grants one whose zone has become clear and whose target stands in that state; it waits while it would grant one with a
presence change of its target served at only one of SSQ and QAC, so that no such change sees two classes (R94, log entry 23). A
quiet timeout ends a PENDING access; a hold limit marks a GRANTED one overrun; a presence change that no grant and no start-up
explains gives every slot of the zone, under the mode held at its service (log entry 25), a disturbance order. -/
def Obligations.AccessEventsAtQac : Prop :=
  ∀ s : State,
    let ended (v : State) (r : Fin 2) (u : AccessUse) : State := { v with
      qac := { v.qac with
        records := tset v.qac.records r .free
        holds := tof fun j => if j ∈ u.zone then tget v.qac.holds j - 1 else tget v.qac.holds j }
      mail := tof fun j => if j ∈ u.zone ∧ tget v.qac.holds j - 1 = 0 then
        { v.mailOf j with releases := (v.mailOf j).releases + 1 } else v.mailOf j }.post .accessEnded u.target.val
    let granted (v : State) (r : Fin 2) (u : AccessUse) : State := { v with qac := { v.qac with
      records := tset v.qac.records r (.granted { u with timer := some (v.rck.osc + v.qac.limit * 1000) }
        (v.slot u.target).present false) } }.post .grant u.target.val
    let stands (v : State) (u : AccessUse) : Prop :=
      (v.slot u.target).state = if u.action = .load then SlotState.empty else SlotState.unload
    let clear (v : State) (u : AccessUse) : Prop := ∀ j ∈ u.zone, (v.slot j).exposed = false
    let reported (i : Slot) (r : Fin 2) (v : State) : State :=
      match v.access r with
      | .pending u =>
        if u.target = i ∧ ¬ stands v u then ended v r u
        else if i ∈ u.zone ∧ clear v u then if stands v u then granted v r u else ended v r u
        else v
      | _ => v
    let waits (i : Slot) : Prop := ∃ r u, s.access r = .pending u ∧ i ∈ u.zone ∧ clear s u ∧ stands s u ∧
      (s.mailOf u.target).presenceToSsq ≠ (s.mailOf u.target).presenceToQac
    (∀ i : Slot,
      ((s.mailOf i).changes = 0 ∨ waits i → exec (.slotChangeReport i) s = .next s) ∧
      (0 < (s.mailOf i).changes → ¬ waits i → exec (.slotChangeReport i) s =
        .next (reported i 1 (reported i 0 (s.setMail i { s.mailOf i with changes := (s.mailOf i).changes - 1 }))))) ∧
    (∀ r : Fin 2,
      (∀ u due, s.access r = .pending u → u.timer = some due →
        exec (.quietTimeoutExpiry r) s = .next (if due ≤ s.rck.osc then ended s r u else s) ∧
        exec (.holdLimitExpiry r) s = .next s) ∧
      (∀ u p x due, s.access r = .granted u p x → u.timer = some due →
        exec (.holdLimitExpiry r) s = .next (
          if due ≤ s.rck.osc then
            { s with qac := { s.qac with
              records := tset s.qac.records r (.granted { u with timer := none } p true) } }.post .holdOverrun u.target.val
          else s) ∧
        exec (.quietTimeoutExpiry r) s = .next s) ∧
      (s.access r = .free → exec (.quietTimeoutExpiry r) s = .next s ∧ exec (.holdLimitExpiry r) s = .next s)) ∧
    ∀ i : Slot,
      ((s.mailOf i).presenceToQac = [] → exec (.presenceChangeAtQac i) s = .next s) ∧
      ∀ c rest, (s.mailOf i).presenceToQac = c :: rest →
        let v := s.setMail i { s.mailOf i with presenceToQac := rest }
        let zone := zoneOf s.qac.mode i
        let explained : Prop := c.startUp = true ∨ ∃ r u p x, s.access r = .granted u p x ∧ u.target = i
        (explained → exec (.presenceChangeAtQac i) s = .next v) ∧
        let disturbed (j : Slot) : Mail :=
          if j ∈ zone then { v.mailOf j with disturbances := (v.mailOf j).disturbances + 1 } else v.mailOf j
        (¬ explained → exec (.presenceChangeAtQac i) s = .next { v with mail := tof disturbed })

/-- R79, R80, R82, R85, R59, R78, R88, R96: no slot of a GRANTED record's zone runs a sensitive stage without being QUIET; the hold
count of a slot is the number of records in use whose zone holds it; a slot that is ASKED or QUIET is held or has its RELEASE
order on the way; no two records have one target; every record keeps its zone and its timer; and the target of a GRANTED
unload stays in UNLOAD, that of a GRANTED load receives no ungranted drive. -/
def Obligations.GrantedZonesStayQuiet : Prop :=
  ∀ s t : State, Lawful s → step s = .next t → QuietLaws t

/-! ### Section 6: burn-in accounting -/

/-- R98 to R103, R105, R110, R111: a scan starts when its period has passed and none is in progress, and reads slots 0 to 23 in
turn. A reading of an absent slot clears its context. An accepted one (present sensor check, value in range) is corrected,
clamped and filtered with rounding away from zero, and counts towards overtemperature at the third hot reading in a row; any
other is a failure, and the third failure in a row makes the slot STALE. A capture report still on its way reaches TAU before
the reading (log entry 27). -/
def Obligations.ScansReadEverySlot : Prop :=
  ∀ s : State,
    exec .scanStart s = .next (
      if s.tau.scanNext = none ∧ s.tau.scanStartAt + s.tau.period * 1000 ≤ s.rck.osc then
        { s with tau := { s.tau with scanStartAt := s.rck.osc, scanNext := some 0 } }
      else s) ∧
    ∀ reply : Option SensorReply,
      (s.tau.scanNext = none → exec (.sensorReading reply) s = .next s) ∧
      ∀ i : Slot, s.tau.scanNext = some i →
        let m : Mail := { s.mailOf i with captures := 0 }
        let v (c : TempContext) : State := { s with
          tau := { s.tau with
            scanNext := if h : i.val + 1 < 24 then some ⟨i.val + 1, h⟩ else none
            contexts := tset s.tau.contexts i c }
          mail := tset s.mail i m }
        let c : TempContext := { s.temp i with hot := if (s.mailOf i).captures = 0 then (s.temp i).hot else 0 }
        let failed : Prop := exec (.sensorReading reply) s = .next (
          if 2 ≤ c.failures ∧ c.stale = false then (v ⟨none, 3, 0, true⟩).post .sensorStale i.val
          else v { c with failures := min 3 (c.failures + 1) })
        let value (q : SensorReply) : Int :=
          let n : Int := q.high.toNat * 256 + q.low.toNat
          if n < 32768 then n else n - 65536
        let accepted (q : SensorReply) : Prop :=
          crc8 [q.high, q.low] = q.check ∧ -160 ≤ value q ∧ value q ≤ 500
        ((s.slot i).present = false → exec (.sensorReading reply) s = .next (v ⟨none, 0, 0, false⟩)) ∧
        ((s.slot i).present = true → (∀ q ∈ reply, ¬ accepted q) → failed) ∧
        ∀ q, (s.slot i).present = true → reply = some q → accepted q →
          let raw := value q + tget s.tau.offsets i
          let tc : Int := if raw < -160 then -160 else if 500 < raw then 500 else raw
          let w : Int := s.tau.weight
          ∃ tf : Int,
            (c.filtered = none → tf = tc) ∧
            (∀ old, c.filtered = some old →
              (old ≤ tc → (tc - old) * w ≤ 8 * (tf - old) ∧ 8 * (tf - old) < (tc - old) * w + 8) ∧
              (tc < old → 8 * (tf - old) ≤ (tc - old) * w ∧ (tc - old) * w - 8 < 8 * (tf - old))) ∧
            let hot : Prop := (s.slot i).state = .running ∧
              ∃ x m, (s.slot i).context = some x ∧ x.maxTemp = some m ∧ m < tf
            (¬ hot → exec (.sensorReading reply) s = .next (v ⟨some tf, 0, 0, false⟩)) ∧
            (hot → c.hot < 2 → exec (.sensorReading reply) s = .next (v ⟨some tf, 0, c.hot + 1, false⟩)) ∧
            (hot → 2 ≤ c.hot → exec (.sensorReading reply) s = .next ((v ⟨some tf, 0, 0, false⟩).setMail i
              { m with overtemps := m.overtemps + 1 }))

/-- R58, R106, R108, R111: a slot's part of a tick adds the factor of its filtered temperature to the stage credit and the
saturating total of a slot that earns credit, and makes the stage DUE, with STAGE_DUE, when the target is reached; a slot
without a usable temperature, or that earns nothing, is left alone. A capture report clears the hot run. -/
def Obligations.CreditEventsAddTheFactor : Prop :=
  ∀ (i : Slot) (s : State),
    let m := s.mailOf i
    let r := s.slot i
    ((m.captures = 0 → exec (.captureReport i) s = .next s) ∧
      (0 < m.captures → exec (.captureReport i) s = .next ((s.setMail i { m with captures := m.captures - 1 }).setTemp i
        { s.temp i with hot := 0 }))) ∧
    (m.credits = 0 → exec (.creditEvent i) s = .next s) ∧
    (0 < m.credits →
      let u := s.setMail i { m with credits := m.credits - 1 }
      let earns (c : StageContext) (tf : Int) (target : Nat) : Prop := r.state = .running ∧ r.phase = .active ∧
        r.context = some c ∧ c.target = some target ∧ (c.mode = .always ∨ r.quiet ≠ .quiet) ∧
        (s.temp i).filtered = some tf ∧ (s.temp i).stale = false
      ((¬ ∃ c tf target, earns c tf target) → exec (.creditEvent i) s = .next u) ∧
      ∀ c tf target, earns c tf target → 1 ≤ (tget s.tau.profiles c.profile).width →
        let p := tget s.tau.profiles c.profile
        ∃ factor : Nat,
          (tf < p.base → factor = 0) ∧
          (∀ k : Fin 16, p.base + k.val * p.width ≤ tf → (tf < p.base + (k.val + 1) * p.width ∨ k = 15) →
            factor = tget p.factors k) ∧
          let r' : SlotRecord := { r with
            credit := r.credit + factor, total := min 4294967295 (r.total + factor)
            phase := if target ≤ r.credit + factor then .due else .active }
          exec (.creditEvent i) s = .next (
            if target ≤ r.credit + factor then (u.putSlot i r').post .stageDue i.val else u.putSlot i r'))

/-- R104, R107, R112: SET SCAN, SET PROFILE and SET OFFSET set their values, each checked for its range; a profile that a
RUNNING slot's stage names is in use and is not changed. -/
def Obligations.ThermalSettingsAreSet : Prop :=
  ∀ s : State,
    (∀ p w, s.Ready .line (.setScan p w) → exec (.setScan p w) s = .next (
      if 1 ≤ p ∧ p ≤ 10 ∧ 1 ≤ w ∧ w ≤ 8 then
        { s with tau := { s.tau with period := p, weight := w } }.answered .line (.setScan p w) .done []
      else s.answered .line (.setScan p w) .range [])) ∧
    (∀ n z, s.Ready .line (.setOffset n z) →
      (24 ≤ n ∨ z < -32 ∨ 31 < z → exec (.setOffset n z) s = .next (s.answered .line (.setOffset n z) .range [])) ∧
      ∀ i : Slot, i.val = n → -32 ≤ z → z ≤ 31 → exec (.setOffset n z) s = .next
        ({ s with tau := { s.tau with offsets := tset s.tau.offsets i z } }.answered .line (.setOffset n z) .done [])) ∧
    ∀ n b w fs, s.Ready .line (.setProfile n b w fs) → fs.length = 16 →
      let answers (t : State) (k : RespCode) : Prop :=
        exec (.setProfile n b w fs) s = .next (t.answered .line (.setProfile n b w fs) k [])
      let legal : Prop := -160 ≤ b ∧ b ≤ 500 ∧ 4 ≤ w ∧ w ≤ 40 ∧ ∀ f ∈ fs, f ≤ 255
      (2 ≤ n ∨ ¬ legal → answers s .range) ∧
      ∀ p : Fin 2, p.val = n → legal →
        let used : Prop := ∃ i c, (s.slot i).state = .running ∧ (s.slot i).context = some c ∧ c.profile = p
        (used → answers s .inUse) ∧
        (¬ used → ∃ q : Profile, q.base = b ∧ q.width = w ∧ q.factors.toList = fs ∧
          answers { s with tau := { s.tau with profiles := tset s.tau.profiles p q } } .done)

/-- What TAU keeps, and what PCU keeps while it is ACTIVE: the filtered temperatures, offsets, factors and settings stay in
their ranges, a STALE slot has no filtered temperature (R101, R105, R107, R112), and every enabled channel names a WRITTEN
block and holds a value of its range (R141, R145). -/
def Obligations.ThermalAndPatchLawsAreKept : Prop :=
  ∀ s t : State, Lawful s → step s = .next t → ThermalLaws t.tau ∧ PatchLaws t

/-! ### Section 7: the recipe store -/

/-- R116 to R119: staging. STAGE HEADER empties the buffer and writes the header, STAGE STEP and STAGE LIMITS
write one entry; each checks its ranges. A buffer describes a recipe exactly when it holds a header, its stages stand
contiguously from 0 and are consistent, and its limits are in order. A refusal clears the lock override flag. -/
def Obligations.StagingBuildsARecipe : Prop :=
  (∀ s : State,
    let written (c : Instr) (t : Staging) : Prop :=
      exec c s = .next ({ s with rst := { s.rst with staging := t } }.answered .line c .done [])
    let ranged (c : Instr) : Prop :=
      exec c s = .next ({ s with rst := { s.rst with lockOverride := false } }.answered .line c .range [])
    (∀ id rev tag credit, s.Ready .line (.stageHeader id rev tag credit) →
      let legal : Prop := 1 ≤ id ∧ id ≤ 65535 ∧ 1 ≤ rev ∧ rev ≤ 255 ∧ 1 ≤ tag.length ∧ tag.length ≤ 16 ∧
        (∀ b ∈ tag, 0x20 ≤ b.toNat ∧ b.toNat ≤ 0x7E) ∧ credit ≤ 65535
      (legal → written (.stageHeader id rev tag credit)
        ⟨some ⟨id, rev, tag, credit⟩, Vector.replicate 16 none, Vector.replicate 8 none⟩) ∧
      (¬ legal → ranged (.stageHeader id rev tag credit))) ∧
    (∀ n k se su target mode p limit temp, s.Ready .line (.stageStep n k se su target mode p limit temp) →
      let c : Instr := .stageStep n k se su target mode p limit temp
      let between (o : OptArg) (lo hi : Int) : Prop := o.presence = 0 ∨ (o.presence = 1 ∧ lo ≤ o.value ∧ o.value ≤ hi)
      let legal : Prop := n ≤ 15 ∧ k ≤ 2 ∧ se ≤ 1 ∧ su ≤ 1 ∧ mode ≤ 1 ∧ p ≤ 1 ∧
        between target 1 65535 ∧ between limit 1 10080 ∧ between temp (-160) 500
      let given (o : OptArg) : Option Int := if o.presence = 1 then some o.value else none
      (¬ legal → ranged c) ∧
      (legal → ∃ e : StageEntry, e.kind.code = k ∧ (e.sensitive = true ↔ se = 1) ∧ (e.suspendable = true ↔ su = 1) ∧
        e.target.map (fun x => (x : Int)) = given target ∧ e.mode.code = mode ∧ e.profile.val = p ∧
        e.limit.map (fun x => (x : Int)) = given limit ∧ e.maxTemp = given temp ∧
        ∀ i : Fin 16, i.val = n → written c { s.rst.staging with steps := tset s.rst.staging.steps i (some e) })) ∧
    ∀ n a b r q, s.Ready .line (.stageLimits n a b r q) →
      let c : Instr := .stageLimits n a b r q
      let legal : Prop := n ≤ 7 ∧ a ≤ 4294967295 ∧ b ≤ 4294967295 ∧ r ≤ 4294967295 ∧ q ≤ 1
      (¬ legal → ranged c) ∧
      (legal → ∀ m : MeasureId, m.val = n →
        written c { s.rst.staging with limits := tset s.rst.staging.limits m (some ⟨a, b, r, decide (q = 1)⟩) })) ∧
  ∀ (t : Staging) (r : Recipe), t.recipe? = some r ↔
    t.header = some r.header ∧ t.limits = r.limits ∧ 1 ≤ r.stages.length ∧ r.stages.length ≤ 16 ∧
    (∀ i : Fin 16, tget t.steps i = r.stages[i.val]?) ∧
    (∀ e ∈ r.stages, (e.kind = .soak → e.target.isSome = true) ∧ (e.suspendable = true → e.sensitive = true)) ∧
    ∀ m e, tget r.limits m = some e → e.a ≤ e.b ∧ e.b ≤ e.r

/-- R115, R116, R126, R133: the store's flags and status: LOCK OVERRIDE, SET STORE MODE (PRODUCTION only, while nothing
runs or is suspended), SET FETCH PRIORITY and CLEAR STORE STATUS. -/
def Obligations.StoreFlagsAreSet : Prop :=
  ∀ s : State,
    let answers (c : Instr) (q : Rst) (k : RespCode) : Prop := exec c s = .next ({ s with rst := q }.answered .line c k [])
    let cleared : Rst := { s.rst with lockOverride := false }
    (s.Ready .line .lockOverride →
      (s.rst.mode = .engineering → answers .lockOverride { s.rst with lockOverride := true } .done) ∧
      (s.rst.mode = .production → answers .lockOverride cleared .modeProtected)) ∧
    (∀ m, s.Ready .line (.setStoreMode m) →
      (2 ≤ m → answers (.setStoreMode m) cleared .range) ∧
      (m = 0 → answers (.setStoreMode m) cleared .modeProtected) ∧
      (m = 1 → s.rst.running ≠ none ∨ s.rst.suspended ≠ none → answers (.setStoreMode m) cleared .busy) ∧
      (m = 1 → s.rst.running = none → s.rst.suspended = none →
        answers (.setStoreMode m) { cleared with mode := .production } .done)) ∧
    (∀ p, s.Ready .line (.setFetchPriority p) →
      (2 ≤ p → answers (.setFetchPriority p) cleared .range) ∧
      (p ≤ 1 → answers (.setFetchPriority p) { s.rst with priority := decide (p = 1) } .done)) ∧
    (s.Ready .line .clearStoreStatus → answers .clearStoreStatus { s.rst with error := none } .done)

/-- R120, R121, R123 to R125, R114, R145: what each store operation checks, in order, and how it begins: its target INVALID
and unlocked before any work, reported to PCU when it leaves WRITTEN, and the operation running. PROGRAM nests over a suspended
ERASE. -/
def Obligations.StoreOperationsBegin : Prop :=
  ∀ s : State,
    let refused (c : Instr) (k : RespCode) : Prop :=
      exec c s = .next ({ s with rst := { s.rst with lockOverride := false } }.answered .line c k [])
    let off (b : BlockNo) (c : Channel) : Channel := if c.block = b then { c with enable := false } else c
    let begun (c : Instr) (b : BlockNo) (w : Work) (nested : Bool) : Prop := exec c s = .next ({ s with
      rst := { s.rst with
        blocks := tset s.rst.blocks b { s.block b with state := .invalid, locked := false, record := none }
        running := some ⟨w, nested, false, false⟩ }
      pcu := if (s.block b).state = BlockState.written ∧ s.pcu.unit = UnitState.active then
        { s.pcu with channels := tof fun k => off b (tget s.pcu.channels k) } else s.pcu }.answered .line c .accepted [])
    let idle : Prop := s.rst.running = none ∧ s.rst.suspended = none
    (∀ n, s.Ready .line (.program n) →
      (32 ≤ n → refused (.program n) .range) ∧
      ∀ b : BlockNo, b.val = n →
        let nests : Prop := s.rst.running = none ∧ ∃ c, s.rst.suspended = some (.erase c)
        let held (r : Recipe) : Prop := ∃ c r', (s.block c).written? = some r' ∧ r'.header.id = r.header.id ∧
          r'.header.revision = r.header.revision
        (¬ idle → ¬ nests → refused (.program n) .busy) ∧
        (idle ∨ nests → (s.block b).state ≠ .blank → refused (.program n) .wrongState) ∧
        (idle ∨ nests → (s.block b).state = .blank → s.rst.staging.recipe? = none → refused (.program n) .invalidRecipe) ∧
        ∀ r, idle ∨ nests → (s.block b).state = .blank → s.rst.staging.recipe? = some r →
          (held r → refused (.program n) .duplicate) ∧
          (¬ held r → s.rst.error ≠ none → refused (.program n) .storeError) ∧
          (¬ held r → s.rst.error = none → begun (.program n) b (.program b r) s.rst.suspended.isSome)) ∧
    (∀ n, s.Ready .line (.erase n) →
      (32 ≤ n → refused (.erase n) .range) ∧
      ∀ b : BlockNo, b.val = n →
        let locked : Prop := (s.block b).locked = true ∧ s.rst.lockOverride = false
        (¬ idle → refused (.erase n) .busy) ∧
        (idle → locked → refused (.erase n) .locked) ∧
        (idle → ¬ locked → 0 < (s.block b).refs → refused (.erase n) .inUse) ∧
        (idle → ¬ locked → (s.block b).refs = 0 → s.rst.error ≠ none → refused (.erase n) .storeError) ∧
        (idle → ¬ locked → (s.block b).refs = 0 → s.rst.error = none → begun (.erase n) b (.erase b) false)) ∧
    (∀ n, s.Ready .line (.blankCheck n) →
      (32 ≤ n → refused (.blankCheck n) .range) ∧
      ∀ b : BlockNo, b.val = n →
        (¬ idle → refused (.blankCheck n) .busy) ∧
        (idle → (s.block b).state = .written → refused (.blankCheck n) .wrongState) ∧
        (idle → (s.block b).state ≠ .written → s.rst.error ≠ none → refused (.blankCheck n) .storeError) ∧
        (idle → (s.block b).state ≠ .written → s.rst.error = none →
          begun (.blankCheck n) b (.blankCheck b (s.block b).state) false)) ∧
    (∀ n, s.Ready .line (.lock n) →
      (32 ≤ n → refused (.lock n) .range) ∧
      ∀ b : BlockNo, b.val = n →
        let lockable : Prop := (s.block b).state = .written ∧ (s.block b).locked = false
        (¬ idle → refused (.lock n) .busy) ∧
        (idle → ¬ lockable → refused (.lock n) .wrongState) ∧
        (idle → lockable → exec (.lock n) s = .next ({ s with rst := { s.rst with
          running := some ⟨.lock b, false, false, false⟩ } }.answered .line (.lock n) .accepted []))) ∧
    (s.Ready .line .storeClear →
      let referenced : Prop := ∃ b, 0 < (s.block b).refs
      (¬ idle → refused .storeClear .busy) ∧
      (idle → referenced → refused .storeClear .inUse) ∧
      (idle → ¬ referenced → s.rst.error ≠ none → refused .storeClear .storeError) ∧
      (idle → ¬ referenced → s.rst.error = none → exec .storeClear s = .next ({ s with rst := { s.rst with
        mode := .engineering, running := some ⟨.clear none 0 false, false, false, false⟩ } }.answered
          .line .storeClear .accepted [])))

/-- R122 to R126, R127: how each running operation ends: the block takes its state, a first failure is recorded, the place
becomes absent, a fetch that waited is served with nothing running, and the notice is posted. PROGRAM, ERASE and LOCK clear the
lock override flag. A CLEAR makes its blocks INVALID one after another and ends after block 31, with the one notice of index
255, which is the model's choice (log entry 29). -/
def Obligations.StoreOperationsEnd : Prop :=
  ∀ (s : State) (n x y : Bool),
    let unforced (v : State) : State := { v with rst := { v.rst with lockOverride := false } }
    let failed (v : State) (k : StoreErrorKind) (b : BlockNo) : State :=
      { v with rst := { v.rst with error := if v.rst.error = none then some (k, b) else v.rst.error } }
    let gone (v : State) : State :=
      let u : State := { v with rst := { v.rst with running := none } }
      if y then u.answerWaiting else u
    let put (b : BlockNo) (k : RecipeBlock) : State := { s with rst := { s.rst with blocks := tset s.rst.blocks b k } }
    (∀ b r, s.rst.running = some ⟨.program b r, n, x, y⟩ →
      exec (.programCompletion true) s = .next ((gone (unforced (put b { s.block b with
        state := .written, locked := false, record := some r }))).post .storeDone b.val) ∧
      exec (.programCompletion false) s =
        .next ((gone (unforced (failed s .programFailed b))).post .storeFailed b.val)) ∧
    (∀ b, s.rst.running = some ⟨.erase b, n, x, y⟩ →
      exec (.eraseCompletion true) s =
        .next ((gone (unforced (put b { s.block b with state := .blank }))).post .storeDone b.val) ∧
      exec (.eraseCompletion false) s = .next ((gone (unforced (failed s .eraseFailed b))).post .storeFailed b.val)) ∧
    (∀ b prior, s.rst.running = some ⟨.blankCheck b prior, n, x, y⟩ →
      exec (.blankCheckCompletion true) s =
        .next ((gone (put b { s.block b with state := .blank })).post .storeDone b.val) ∧
      exec (.blankCheckCompletion false) s = .next ((gone (failed (put b { s.block b with state := prior }) .checkFailed b)
       ).post .storeFailed b.val)) ∧
    (∀ b, s.rst.running = some ⟨.lock b, n, x, y⟩ →
      exec .lockCompletion s =
        .next ((gone (unforced (put b { s.block b with locked := true }))).post .storeDone b.val)) ∧
    (∀ (b : BlockNo) f, s.rst.running = some ⟨.clear none b.val f, n, x, y⟩ →
      exec .clearBlockErasure s = .next { s.invalidate b with rst := { (s.invalidate b).rst with
        running := some ⟨.clear (some b) b.val f, n, x, y⟩ } }) ∧
    ∀ (b : BlockNo) k f ok, s.rst.running = some ⟨.clear (some b) k f, n, x, y⟩ →
      let v : State := if ok then put b { s.block b with state := .blank } else failed s .eraseFailed b
      let anyFailed : Bool := f || !ok
      (b.val ≠ 31 → exec (.clearBlockCompletion ok) s = .next { v with rst := { v.rst with
        running := some ⟨.clear none (b.val + 1) anyFailed, n, x, y⟩ } }) ∧
      (b.val = 31 → exec (.clearBlockCompletion ok) s = .next
        ((gone v).post (if anyFailed then .storeFailed else .storeDone) 255))

/-- R127, R129, R130: SUSPEND asks the running ERASE or PROGRAM to suspend; at the suspension event it is suspended, with
STORE_DONE, or, when only a fetch asked, goes on after the fetch is served. RESUME runs the suspended one again. STOP ends both,
with STORE_DONE for each. -/
def Obligations.StoreOperationsSuspendAndStop : Prop :=
  ∀ s : State,
    let unforced (v : State) : State := { v with rst := { v.rst with lockOverride := false } }
    let answers (c : Instr) (v : State) (k : RespCode) : Prop := exec c s = .next (v.answered .line c k [])
    let run (v : State) (o : Option Running) : State := { v with rst := { v.rst with running := o } }
    let half (w : Work) : Option Suspended := match w with
      | .program b r => some (.program b r)
      | .erase b => some (.erase b)
      | _ => none
    (s.Ready .line .suspend →
      ((∀ o, s.rst.running = some o → half o.work = none ∨ o.nested = true ∨ s.rst.suspended ≠ none ∨ o.askedExplicit = true) →
        answers .suspend (unforced s) .wrongState) ∧
      ∀ o, s.rst.running = some o → half o.work ≠ none → o.nested = false → s.rst.suspended = none →
        o.askedExplicit = false → answers .suspend (run s (some { o with askedExplicit := true })) .accepted) ∧
    (∀ o, s.rst.running = some o →
      let served := if o.askedFetch then s.answerWaiting else s
      (o.askedExplicit = false → o.askedFetch = false → exec .suspensionEvent s = .next s) ∧
      (∀ p, o.askedExplicit = true → half o.work = some p → exec .suspensionEvent s = .next (unforced ({ served with
        rst := { served.rst with running := none, suspended := some p } }.post .storeDone p.block.val))) ∧
      (o.askedExplicit = false → o.askedFetch = true →
        exec .suspensionEvent s = .next (unforced (run served (some { o with askedFetch := false }))))) ∧
    (s.rst.running = none → exec .suspensionEvent s = .next s) ∧
    (s.Ready .line .resume →
      (s.rst.suspended = none → answers .resume (unforced s) .wrongState) ∧
      ∀ p, s.rst.suspended = some p →
        (s.rst.running ≠ none → answers .resume (unforced s) .busy) ∧
        (s.rst.running = none → ∃ w, half w = some p ∧ answers .resume
          { s with rst := { s.rst with running := some ⟨w, false, false, false⟩, suspended := none } } .accepted)) ∧
    (s.Ready .line .stop →
      (s.rst.running = none → s.rst.suspended = none → answers .stop (unforced s) .wrongState) ∧
      (s.rst.running ≠ none ∨ s.rst.suspended ≠ none →
        let v := match s.rst.running with
          | some o =>
            let u := run s none
            (if o.askedFetch then u.answerWaiting else u).post .storeDone o.work.noticeIndex
          | none => s
        let w := match s.rst.suspended with
          | some p => { v with rst := { v.rst with suspended := none } }.post .storeDone p.block.val
          | none => v
        answers .stop (unforced w) .done))

/-- R131, R132, R134: a fetch that reaches RST is served when nothing runs, waits on the suspension of a running ERASE or
PROGRAM that the rule lets it ask for, and is answered BUSY otherwise. A start fetch takes the WRITTEN block with the highest
revision of its id and counts a reference; a stage or limits fetch reads the block it names; PCU's overlay is applied. -/
def Obligations.FetchesAreServed : Prop :=
  (∀ (f : Fetch) (s : State), s.fetch = .sent f →
    let c : Instr := match f with
      | .start _ _ => .startFetch
      | .stage _ _ _ => .stageFetch
      | .limits _ _ => .limitsFetch
    (s.rst.running = none → exec c s = .next (s.answerFetch f)) ∧
    ∀ o, s.rst.running = some o →
      let asks : Prop := ((∃ b r, o.work = .program b r) ∨ ∃ b, o.work = .erase b) ∧ o.nested = false ∧
        o.askedFetch = false ∧ (o.askedExplicit = true ∨ (s.rst.priority = true ∧ s.rst.suspended = none))
      (¬ asks → exec c s = .next { s with fetch := .answered f .busy }) ∧
      (asks → exec c s = .next { s with
        fetch := .waiting f, rst := { s.rst with running := some { o with askedFetch := true } } })) ∧
  ∀ s : State,
    (∀ f, s.fetch = .waiting f → s.answerWaiting = s.answerFetch f) ∧
    (∀ i id,
      ((∀ b r, (s.block b).written? = some r → r.header.id ≠ id) →
        s.answerFetch (.start i id) = { s with fetch := .answered (.start i id) .range }) ∧
      ∀ b r e rest, (s.block b).written? = some r → r.header.id = id → r.stages = e :: rest →
        (∀ c r', (s.block c).written? = some r' → r'.header.id = id → c = b ∨ r'.header.revision < r.header.revision) →
        let data : FetchResult := .start b r.header.revision r.stages.length (s.pcu.overlayStage b 0 e)
        s.answerFetch (.start i id) = { s with
          rst := { s.rst with blocks := tset s.rst.blocks b { s.block b with refs := (s.block b).refs + 1 } }
          fetch := .answered (.start i id) data }) ∧
    (∀ i b n r e, (s.block b).written? = some r → r.stages[n]? = some e →
      s.answerFetch (.stage i b n) = { s with fetch := .answered (.stage i b n) (.stage (s.pcu.overlayStage b n e)) }) ∧
    ∀ i b r, (s.block b).written? = some r →
      let data : FetchResult :=
        .limits (s.pcu.overlayLimits b r.limits) (s.pcu.overlayMin b r.header.minCredit) s.pcu.generation
      s.answerFetch (.limits i b) = { s with fetch := .answered (.limits i b) data }

/-- R114, R119 to R121, R124, R127 to R132: what the store, the slots and the fetch in flight keep together: a block holds a
record exactly while it is WRITTEN, records are legal and distinct, an operation under way has its block INVALID, one fetch is
in flight at most, and a block's count is the number of slot records and start answers that refer to it. -/
def Obligations.StoreAndReferencesAgree : Prop :=
  ∀ s t : State, Lawful s → step s = .next t → StoreLaws t.rst ∧ ReferenceLaws t

/-- R115, R116: while the store is in PRODUCTION and no CLEAR begins, a locked block stays locked, WRITTEN and as it is. -/
def Obligations.ProductionKeepsLockedBlocks : Prop :=
  ∀ (s t : State) (b : BlockNo), Lawful s → s.rst.mode = .production → (s.block b).locked = true → step s = .next t →
    (t.block b).state = .written ∧ (t.block b).locked = true ∧ (t.block b).record = (s.block b).record

/-! ### Reads -/

/-- R16, R75: READ SLOT answers, on every link, with the 128 bytes of Table 1-8, taken from the record and QAC's hold count,
absent fields as zeros (time stamps as FFFFFFFF and FFFF), and changes nothing. -/
def Obligations.ReadSlotShowsTheRecord : Prop :=
  ∀ (l : Link) (n : Nat) (s : State), s.Ready l (.readSlot l n) →
    (24 ≤ n → exec (.readSlot l n) s = .next (s.answered l (.readSlot l n) .range [])) ∧
    ∀ i : Slot, i.val = n → ∃ p : List Byte,
      exec (.readSlot l n) s = .next (s.answered l (.readSlot l n) .done p) ∧ p.length = 128 ∧
      let r := s.slot i
      let num (k : Nat) : BitVec 8 := BitVec.ofNat 8 k
      let yes (b : Bool) : BitVec 8 := if b then 1#8 else 0#8
      let at_ (byte : Nat) (bs : List Byte) : Prop := (p.drop (byte - 4)).take bs.length = bs
      at_ 4 [num i.val, num r.state.code, yes r.present, yes r.closed] ∧
      (∀ bits, p[4]? = some bits →
        bits.getLsbD 0 = r.serial.isSome ∧ bits.getLsbD 1 = r.recipe.isSome ∧ bits.getLsbD 2 = r.context.isSome ∧
        bits.getLsbD 3 = (r.context.bind (·.target)).isSome ∧ bits.getLsbD 4 = (r.context.bind (·.maxTemp)).isSome ∧
        bits.getLsbD 5 = r.grade.isSome ∧ bits.getLsbD 6 = r.fault.isSome ∧ bits.getLsbD 7 = r.patchGen.isSome) ∧
      at_ 9 [yes r.ungranted, num r.exit.code] ∧
      (∀ cs, r.serial = some cs → cs.length ≤ 20 → at_ 11 (num cs.length :: cs ++ List.replicate (20 - cs.length) 0#8)) ∧
      (r.serial = none → at_ 11 (List.replicate 21 0#8)) ∧
      (∀ ref, r.recipe = some ref → at_ 32 (num ref.block.val :: be16 ref.id ++ [num ref.revision])) ∧
      (r.recipe = none → at_ 32 [0#8, 0#8, 0#8, 0#8]) ∧
      at_ 36 [num r.stage] ∧
      (∀ c, r.context = some c →
        at_ 37 [num c.kind.code, yes c.sensitive, yes c.suspendable, num c.mode.code, num c.profile.val] ∧
        at_ 45 (be32 (c.target.getD 0)) ∧ at_ 57 (optStampBytes c.deadline) ∧
        (c.maxTemp = none → at_ 63 [0#8, 0#8]) ∧
        ∀ x : Int, c.maxTemp = some x → -32768 ≤ x → x < 32768 → signedOf 16 (beNat ((p.drop 59).take 2)) = x) ∧
      (r.context = none → at_ 37 [0#8, 0#8, 0#8, 0#8, 0#8] ∧ at_ 45 (be32 0) ∧ at_ 57 (be32 4294967295 ++ be16 65535) ∧
        at_ 63 [0#8, 0#8]) ∧
      at_ 42 [num r.phase.code, num r.quiet.code, num (tget s.qac.holds i)] ∧
      at_ 49 (be32 r.credit ++ be32 r.total) ∧
      (r.marks.length ≤ 16 → ∀ k < 16,
        (beNat ((p.drop 61).take 2)).testBit k = ((r.marks[k]?).map (·.overtime)).getD false ∧
        (beNat ((p.drop 63).take 2)).testBit k = ((r.marks[k]?).map (·.disturbed)).getD false) ∧
      (∀ m : MeasureId, at_ (70 + 4 * m.val) (be32 ((tget r.measures m).getD 0)) ∧
        ∀ bits, p[65]? = some bits → bits.getLsbD m.val = (tget r.measures m).isSome) ∧
      (∀ g, r.grade = some g → at_ 102 [num g.1.code, num g.2.code, num g.2.argument]) ∧
      (r.grade = none → at_ 102 [0#8, 0#8, 0#8]) ∧
      (∀ k t, r.fault = some (k, t) → at_ 105 (num k.code :: optStampBytes (some t))) ∧
      (r.fault = none → at_ 105 (0#8 :: optStampBytes none)) ∧
      at_ 112 (be16 (r.patchGen.getD 0)) ∧
      at_ 114 (optStampBytes r.loadedAt ++ optStampBytes r.startedAt ++ optStampBytes r.finishedAt)

/-- R15, R21, R135, R136, R116: READ CLOCK, READ RECIPE and READ STORE answer with the clock, a part of a stored record, and the
store's whole status, and change nothing but the model's counter of free values, which READ RECIPE advances: the value bytes it
sends for an absent field are left open by R6 (log entry 3). -/
def Obligations.ClockAndStoreReads : Prop :=
  ∀ s : State,
    let num (k : Nat) : BitVec 8 := BitVec.ofNat 8 k
    let yes (b : Bool) : BitVec 8 := if b then 1#8 else 0#8
    (∀ l, s.Ready l (.readClock l) → exec (.readClock l) s = .next (s.answered l (.readClock l) .done
      (be32 s.rck.time.seconds ++ be16 s.rck.time.millis ++ [yes s.rck.unset]))) ∧
    (∀ n m, s.Ready .line (.readRecipe n m) →
      let refused (k : RespCode) : Prop := exec (.readRecipe n m) s =
        .next ({ s with rst := { s.rst with lockOverride := false } }.answered .line (.readRecipe n m) k [])
      (32 ≤ n ∨ 3 ≤ m → refused .range) ∧
      ∀ b : BlockNo, b.val = n → m < 3 →
        let busy : Prop := ∃ o, s.rst.running = some o ∧ (o.work = .lock b ∨ ∃ t k f, o.work = .clear t k f)
        (busy → refused .busy) ∧
        (¬ busy → (s.block b).written? = none → refused .wrongState) ∧
        ∀ r, ¬ busy → (s.block b).written? = some r → ∃ p : List Byte,
          exec (.readRecipe n m) s =
            .next ({ s with freeSeed := s.freeSeed + 1 }.answered .line (.readRecipe n m) .done (num b.val :: p)) ∧
          (m = 0 → p = yes (s.block b).locked :: (be16 r.header.id ++ num r.header.revision ::
            num r.header.tag.length :: (r.header.tag ++ be16 r.header.minCredit))) ∧
          (m = 1 → ∃ rows : List (List Byte), p = num r.stages.length :: rows.flatten ∧ rows.length = r.stages.length ∧
            ∀ (k : Nat) (row : List Byte) (e : StageEntry), rows[k]? = some row → r.stages[k]? = some e → row.length = 14 ∧
              row.take 3 = [num e.kind.code, yes e.sensitive, yes e.suspendable] ∧
              row[3]? = some (yes e.target.isSome) ∧ (∀ t ∈ e.target, (row.drop 4).take 2 = be16 t) ∧
              (row.drop 6).take 3 = [num e.mode.code, num e.profile.val, yes e.limit.isSome] ∧
              (∀ t ∈ e.limit, (row.drop 9).take 2 = be16 t) ∧ row[11]? = some (yes e.maxTemp.isSome) ∧
              ∀ x ∈ e.maxTemp, row.drop 12 = be16 (twosOf 16 x)) ∧
          (m = 2 → p = num ((allMeasures.filter fun k => (tget r.limits k).isSome).length) ::
            allMeasures.flatMap fun k => match tget r.limits k with
              | some e => num k.val :: (be32 e.a ++ be32 e.b ++ be32 e.r ++ [yes e.required])
              | none => [])) ∧
    (s.Ready .line .readStore → ∃ p : List Byte,
      exec .readStore s = .next (s.answered .line .readStore .done p) ∧ p.length = 114 ∧
      (∀ b : BlockNo, p[b.val]? = some (num (s.block b).state.code) ∧ p[32 + b.val]? = some (yes (s.block b).locked) ∧
        p[64 + b.val]? = some (num (s.block b).refs)) ∧
      (p.drop 96).take 3 = [num s.rst.mode.code, yes s.rst.lockOverride, yes s.rst.priority] ∧
      (s.rst.running = none → (p.drop 99).take 5 = [0#8, 0#8, 0#8, 0#8, 0#8]) ∧
      (∀ o, s.rst.running = some o → (p.drop 99).take 5 = [1#8, num o.work.code,
        match o.work.target? with
          | some b => num b.val
          | none => 255#8,
        yes o.nested, num ((if o.askedExplicit then 1 else 0) + if o.askedFetch then 2 else 0)]) ∧
      (p.drop 104).take 3 = (match s.rst.suspended with
        | none => [0#8, 0#8, 0#8]
        | some (.program b _) => [1#8, 0#8, num b.val]
        | some (.erase b) => [1#8, 1#8, num b.val]) ∧
      (p.drop 107).take 3 = (match s.rst.error with
        | none => [0#8, 0#8, 0#8]
        | some (k, b) => [1#8, num k.code, num b.val]) ∧
      p[110]? = some (yes s.rst.staging.header.isSome) ∧
      (∀ k : Fin 16, (beNat ((p.drop 111).take 2)).testBit k.val = (tget s.rst.staging.steps k).isSome) ∧
      ∀ k : MeasureId, ∀ bits, p[113]? = some bits → bits.getLsbD k.val = (tget s.rst.staging.limits k).isSome)

/-! ### Section 8: patches -/

/-- R138 to R144: the four patch requests and the overlay. PATCH EDIT and WITHDRAW set the unit's state, PATCH SET writes a
channel in EDIT, PATCH APPLY makes the unit ACTIVE, with the generation counted up to 65535, when no two enabled channels clash
and each validates against its block's record. Outside ACTIVE the overlay changes nothing; in ACTIVE a field that an enabled
channel names reads as the channel's value, every other field as stored, and an absent field stays absent. -/
def Obligations.PatchRequestsAndOverlays : Prop :=
  (∀ s : State,
    let status (q : Pcu) : List Byte := [BitVec.ofNat 8 q.unit.code, BitVec.ofNat 8 (q.generation / 256),
      BitVec.ofNat 8 q.generation, BitVec.ofNat 8 ((if (tget q.channels 0).enable then 1 else 0) +
        (if (tget q.channels 1).enable then 2 else 0) + (if (tget q.channels 2).enable then 4 else 0) +
        (if (tget q.channels 3).enable then 8 else 0))]
    let becomes (c : Instr) (q : Pcu) : Prop := exec c s = .next ({ s with pcu := q }.answered .line c .done (status q))
    let refused (c : Instr) (k : RespCode) : Prop := exec c s = .next (s.answered .line c k [])
    (s.Ready .line .patchEdit → becomes .patchEdit { s.pcu with unit := .edit }) ∧
    (s.Ready .line .patchWithdraw → becomes .patchWithdraw { s.pcu with unit := .off }) ∧
    (∀ n e b k sel f v, s.Ready .line (.patchSet n e b k sel f v) →
      let c : Instr := .patchSet n e b k sel f v
      let legal : Prop := n ≤ 3 ∧ e ≤ 1 ∧ b ≤ 31 ∧ v ≤ 4294967295 ∧
        ((k = 0 ∧ sel ≤ 7 ∧ f ≤ 2) ∨ (k = 1 ∧ sel ≤ 15 ∧ f ≤ 2) ∨ (k = 2 ∧ sel = 0 ∧ f = 0))
      (¬ legal → refused c .range) ∧
      (legal → s.pcu.unit ≠ .edit → refused c .wrongState) ∧
      (legal → s.pcu.unit = .edit → ∃ ch : Channel, (ch.enable = true ↔ e = 1) ∧ ch.block.val = b ∧ ch.value = v ∧
        (k = 0 → ∃ m t, ch.target = .limit m t ∧ m.val = sel ∧ [Threshold.a, .b, .r][f]? = some t) ∧
        (k = 1 → ∃ i t, ch.target = .stage i t ∧ i.val = sel ∧
          [StageField.creditTarget, .deadline, .maxTemp][f]? = some t) ∧
        (k = 2 → ch.target = .minCredit) ∧
        ∀ i : Fin 4, i.val = n → exec c s = .next
          ({ s with pcu := { s.pcu with channels := tset s.pcu.channels i ch } }.answered .line c .done []))) ∧
    (s.Ready .line .patchApply →
      let ch (x : Fin 4) : Channel := tget s.pcu.channels x
      let clash : Prop := ∃ x y, x ≠ y ∧ (ch x).enable = true ∧ (ch y).enable = true ∧ (ch x).block = (ch y).block ∧
        (ch x).target = (ch y).target
      let new (x : Fin 4) (m : MeasureId) (t : Threshold) (stored : Nat) : Nat :=
        match (List.finRange 4).find? fun y =>
          (ch y).enable && (ch y).block == (ch x).block && (ch y).target == PatchTarget.limit m t with
        | some y => (ch y).value
        | none => stored
      let signed (v : Nat) : Int := if v < 2147483648 then v else (v : Int) - 4294967296
      let valid (x : Fin 4) : Prop := ∃ r, (s.block (ch x).block).written? = some r ∧ match (ch x).target with
        | .minCredit => (ch x).value ≤ 65535
        | .limit m _ => (ch x).value ≤ 4294967295 ∧ ∃ e, tget r.limits m = some e ∧
          new x m .a e.a ≤ new x m .b e.b ∧ new x m .b e.b ≤ new x m .r e.r
        | .stage i f => ∃ e, r.stages[i.val]? = some e ∧ match f with
          | .creditTarget => e.target.isSome = true ∧ 1 ≤ (ch x).value ∧ (ch x).value ≤ 65535
          | .deadline => e.limit.isSome = true ∧ 1 ≤ (ch x).value ∧ (ch x).value ≤ 10080
          | .maxTemp => e.maxTemp.isSome = true ∧ -160 ≤ signed (ch x).value ∧ signed (ch x).value ≤ 500
      let sound : Prop := ∀ x, (ch x).enable = true → valid x
      (s.pcu.unit ≠ .edit → refused .patchApply .wrongState) ∧
      (s.pcu.unit = .edit → clash → refused .patchApply .conflict) ∧
      (s.pcu.unit = .edit → ¬ clash → ¬ sound → refused .patchApply .invalidRecipe) ∧
      (s.pcu.unit = .edit → ¬ clash → sound → becomes .patchApply
        { s.pcu with unit := .active, generation := min 65535 (s.pcu.generation + 1) }))) ∧
  ∀ (q : Pcu) (b : BlockNo),
    (q.unit ≠ .active → (∀ n e, q.overlayStage b n e = e) ∧ (∀ t, q.overlayLimits b t = t) ∧ ∀ c, q.overlayMin b c = c) ∧
    (q.unit = .active →
      (∀ x y : Fin 4, (tget q.channels x).enable = true → (tget q.channels y).enable = true →
        (tget q.channels x).block = (tget q.channels y).block → (tget q.channels x).target = (tget q.channels y).target →
        x = y) →
      let named (t : PatchTarget) (v : Nat) : Prop := ∃ x : Fin 4, (tget q.channels x).enable = true ∧
        (tget q.channels x).block = b ∧ (tget q.channels x).target = t ∧ (tget q.channels x).value = v
      let reads (t : PatchTarget) (stored : Nat) (new : Nat) : Prop :=
        (∀ v, named t v → new = v) ∧ ((¬ ∃ v, named t v) → new = stored)
      (∀ c, reads .minCredit c (q.overlayMin b c)) ∧
      (∀ table m, (tget table m = none → tget (q.overlayLimits b table) m = none) ∧
        ∀ e, tget table m = some e → ∃ e', tget (q.overlayLimits b table) m = some e' ∧ e'.required = e.required ∧
          reads (.limit m .a) e.a e'.a ∧ reads (.limit m .b) e.b e'.b ∧ reads (.limit m .r) e.r e'.r) ∧
      ∀ (i : Fin 16) (e : StageEntry), ∃ e', q.overlayStage b i.val e = e' ∧
        e' = { e with target := e'.target, limit := e'.limit, maxTemp := e'.maxTemp } ∧
        (e.target = none → e'.target = none) ∧ (e.limit = none → e'.limit = none) ∧ (e.maxTemp = none → e'.maxTemp = none) ∧
        (∀ v, e.target = some v → ∃ w, e'.target = some w ∧ reads (.stage i .creditTarget) v w) ∧
        (∀ v, e.limit = some v → ∃ w, e'.limit = some w ∧ reads (.stage i .deadline) v w) ∧
        (∀ z, e.maxTemp = some z → ∃ z', e'.maxTemp = some z' ∧
          (∀ v, named (.stage i .maxTemp) v → z' = if v < 2147483648 then (v : Int) else (v : Int) - 4294967296) ∧
          ((¬ ∃ v, named (.stage i .maxTemp) v) → z' = z)))

/-! ### Section 9: grading -/

/-- R149 to R156: the grade of an evidence: the criteria yield in their fixed order; the bin is the worst yield, A without one;
the reason is that of the first yield of that bin, NONE without one. -/
def Obligations.GradesAreTheWorstYield : Prop :=
  ∀ g : Evidence,
    let fault : List (Bin × Reason) := match g.fault with
      | some .driveFail => [(.scrap, .fault .driveFail)]
      | some k => [(.rework, .fault k)]
      | none => []
    let disturbed := if ∃ m ∈ g.marks, m.disturbed = true then [(Bin.rework, Reason.disturbed)] else []
    let short : List (Bin × Reason) := match g.limits with
      | some l => if g.total < l.minCredit * 1920 then [(.rework, .creditShort)] else []
      | none => []
    let overtime := if ∃ m ∈ g.marks, m.overtime = true then [(Bin.b, Reason.overtime)] else []
    let measured (l : Limits) (k : MeasureId) : List (Bin × Reason) :=
      match tget l.table k, tget g.measures k with
      | some e, some v => [(if v ≤ e.a then .a else if v ≤ e.b then .b else if v ≤ e.r then .rework else .scrap, .measure k)]
      | some e, none => if e.required then [(.rework, .missing k)] else []
      | none, _ => []
    let measures : List (Bin × Reason) := match g.limits with
      | some l => [0, 1, 2, 3, 4, 5, 6, 7].flatMap (measured l)
      | none => []
    let ys := fault ++ disturbed ++ short ++ overtime ++ measures
    let bin := (gradeOf g).1
    let reason := (gradeOf g).2
    (∀ y ∈ ys, y.1.code ≤ bin.code) ∧
    (ys = [] → bin = .a ∧ reason = .none) ∧
    (ys ≠ [] → ∃ k : Nat, ys[k]? = some (bin, reason) ∧ ∀ j < k, ∀ y : Bin × Reason, ys[j]? = some y → y.1 ≠ bin)

/-! ### Section 10: totes -/

/-- R161, R162 to R165: dispatch reserves the lowest empty position of the bin's OPEN tote, with UNLOAD_READY, or joins the
bin's wait queue, with DISPATCH_STALL; a placed unload fills its reserved position with its entry, with TOTE_FULL when the tote
is then full; a lost drive's reservation goes to the head of the wait queue, and a lost waiting drive leaves it. -/
def Obligations.DispatchReservesOrWaits : Prop :=
  ∀ (i : Slot) (s : State),
    let open_ (v : State) (g : Bin) (t : ToteNo) (b : ToteBody) : Prop := v.tote t = .opened b ∧ b.bin = g ∧
      ∀ u c, v.tote u = .opened c → c.bin = g → u = t
    let lowest (b : ToteBody) (p : Nat) : Prop := b.positions[p]? = some .empty ∧ ∀ q < p, b.positions[q]? ≠ some .empty
    let reserved (v : State) (t : ToteNo) (b : ToteBody) (p : Nat) (j : Slot) : State :=
      ((v.setTote t (.opened { b with positions := b.positions.set p (.reserved j) })).putSlot j
        { v.slot j with state := .unload }).post .unloadReady j.val
    let holds (t : ToteNo) (b : ToteBody) (p : Nat) : Prop := s.tote t = .opened b ∧ b.positions[p]? = some (.reserved i) ∧
      ∀ u c q, s.tote u = .opened c → c.positions[q]? = some (.reserved i) → u = t ∧ q = p
    (∀ g w, (s.slot i).grade = some (g, w) →
      (∀ t b p, open_ s g t b → lowest b p → s.dispatch i = reserved s t b p i) ∧
      ((∀ t b, s.tote t = .opened b → b.bin = g → Position.empty ∉ b.positions) → s.dispatch i =
        ((s.setQueue g (s.waitQueue g ++ [i])).putSlot i { s.slot i with state := .dispatchWait }).post .dispatchStall i.val) ∧
      s.leaveQueue i = s.setQueue g ((s.waitQueue g).erase i)) ∧
    ∀ t b p, holds t b p →
      let r := s.slot i
      let note := (tget s.ttb.notes i).getD (0, 0)
      let b' : ToteBody := { b with positions := b.positions.set p .empty }
      let v := s.setTote t (.opened b')
      (∀ g w, r.grade = some (g, w) →
        let e : FilledEntry := { serial := r.serial, slot := i, recipeId := note.1, revision := note.2,
                                 patchGen := r.patchGen.getD 0, bin := g, reason := w, credit := r.total / 1920,
                                 finishedAt := r.finishedAt, placedAt := s.rck.time }
        let full : List Position := b.positions.set p (.filled e)
        let u := s.setTote t (.opened { b with positions := full })
        ((∀ x ∈ full, ∃ y, x = .filled y) → s.fillReservation i = u.post .toteFull t.val) ∧
        (¬ (∀ x ∈ full, ∃ y, x = .filled y) → s.fillReservation i = u)) ∧
      (s.waitQueue b.bin = [] → s.releaseReservation i = v) ∧
      ∀ j rest, s.waitQueue b.bin = j :: rest → (∀ u c, s.tote u = .opened c → c.bin = b.bin → u = t) →
        ∀ q, lowest b' q → s.releaseReservation i = reserved (v.setQueue b.bin rest) t b' q j

/-- R17, R166 to R169: OPEN TOTE takes the lowest FREE record and serves the bin's wait queue from its head into the new
positions; CLOSE TOTE closes an OPEN record without reservations; RELEASE TOTE frees a CLOSED one; READ TOTE answers with a
record's summary or one position's entry, and changes nothing; the bytes after a serial shorter than 20 characters are free
(log entry 30). -/
def Obligations.ToteRequests : Prop :=
  (∀ s : State,
    let refused (c : Instr) (k : RespCode) : Prop := exec c s = .next (s.answered .line c k [])
    (∀ n m k, s.Ready .line (.openTote n m k) →
      let c : Instr := .openTote n m k
      let legal : Prop := n ≤ 4294967295 ∧ m ≤ 3 ∧ 1 ≤ k ∧ k ≤ 40
      (¬ legal → refused c .range) ∧
      ∀ g : Bin, legal → g.code = m →
        let used : Prop := ∃ t b, s.tote t = .opened b ∧ b.bin = g
        (used → refused c .wrongState) ∧
        (¬ used → (∀ t, s.tote t ≠ .free) → refused c .full) ∧
        ∀ t, ¬ used → s.tote t = .free → (∀ u, u < t → s.tote u ≠ .free) →
          let first := (s.waitQueue g).take k
          let v := (s.setTote t (.opened ⟨n, g, first.map .reserved ++ List.replicate (k - first.length) .empty⟩)).setQueue g
            ((s.waitQueue g).drop k)
          let unloads (w : State) (i : Slot) : State :=
            (w.putSlot i { w.slot i with state := .unload }).post .unloadReady i.val
          exec c s = .next ((first.foldl unloads v).answered .line c .done
            [BitVec.ofNat 8 t.val, BitVec.ofNat 8 first.length])) ∧
    (∀ n, s.Ready .line (.closeTote n) →
      (8 ≤ n → refused (.closeTote n) .range) ∧
      ∀ t : ToteNo, t.val = n →
        ((∀ b, s.tote t ≠ .opened b) → refused (.closeTote n) .wrongState) ∧
        ∀ b, s.tote t = .opened b →
          ((∃ i, Position.reserved i ∈ b.positions) → refused (.closeTote n) .busy) ∧
          ((¬ ∃ i, Position.reserved i ∈ b.positions) → exec (.closeTote n) s = .next
            ((s.setTote t (.closed b)).answered .line (.closeTote n) .done
              [BitVec.ofNat 8 (b.positions.countP fun p => decide (p ≠ .empty))]))) ∧
    ∀ n, s.Ready .line (.releaseTote n) →
      (8 ≤ n → refused (.releaseTote n) .range) ∧
      ∀ t : ToteNo, t.val = n →
        ((∀ b, s.tote t ≠ .closed b) → refused (.releaseTote n) .wrongState) ∧
        ∀ b, s.tote t = .closed b →
          exec (.releaseTote n) s = .next ((s.setTote t .free).answered .line (.releaseTote n) .done [])) ∧
  ∀ (l : Link) (n m : Nat) (s : State), s.Ready l (.readTote l n m) →
    let answers (k : RespCode) (p : List Byte) : Prop :=
      exec (.readTote l n m) s = .next (s.answered l (.readTote l n m) k p)
    let num (k : Nat) : BitVec 8 := BitVec.ofNat 8 k
    (8 ≤ n ∨ 40 < m → answers .range []) ∧
    ∀ t : ToteNo, t.val = n → m ≤ 40 →
      (s.tote t = .free → answers .wrongState []) ∧
      ∀ b, s.tote t = .opened b ∨ s.tote t = .closed b →
        (m = 0 → answers .done ([num n, if s.tote t = .opened b then 1#8 else 2#8] ++ be32 b.label ++
          [num b.bin.code, num b.positions.length, num (b.positions.countP fun p => match p with
              | .filled _ => true
              | _ => false), num (b.positions.countP fun p => match p with
              | .reserved _ => true
              | _ => false)] ++
          b.positions.map fun p => match p with
            | .empty => 255#8
            | .filled _ => 254#8
            | .reserved i => num i.val)) ∧
        (1 ≤ m → b.positions.length < m → answers .range []) ∧
        (1 ≤ m → b.positions[m - 1]? = some .empty →
          answers .done ([num n, num m, 0#8, 255#8] ++ List.replicate 45 0#8)) ∧
        (∀ i : Slot, 1 ≤ m → b.positions[m - 1]? = some (.reserved i) →
          answers .done ([num n, num m, 1#8, num i.val] ++ List.replicate 45 0#8)) ∧
        ∀ e, 1 ≤ m → b.positions[m - 1]? = some (.filled e) → (∀ cs ∈ e.serial, cs.length ≤ 20) →
          let cs := e.serial.getD []
          ∃ rest : List Byte, rest.length = 20 - cs.length ∧
          answers .done ([num n, num m, 2#8, num e.slot.val, num cs.length] ++ cs ++ rest ++ be16 e.recipeId ++ [num e.revision] ++ be16 e.patchGen ++
            [num e.bin.code, num e.reason.code, num e.reason.argument] ++ be32 e.credit ++ optStampBytes e.finishedAt ++
            be32 e.placedAt.seconds ++ be16 e.placedAt.millis)

/-- R160 to R167: what TTB keeps: one OPEN tote for each bin, reservations only in OPEN totes and for slots of their bin, one
for each slot in UNLOAD and none for another; the wait queue of a bin holds exactly the slots that wait for it, each once, and
only while no OPEN tote of the bin has an empty position; a dispatch note for each graded drive. -/
def Obligations.TotesAndWaitQueuesAgree : Prop :=
  ∀ s t : State, Lawful s → step s = .next t → ToteLaws t

end
end

