-- ==== Sys2Proof/Laws/State.lean ====
section
/-! SUPPORT. What each update of the state leaves alone, field by field. -/

namespace Sys2Proof.Machine

@[simp] theorem State.setLink_rck (s : State) (l : Link) (ls : LinkState) : (s.setLink l ls).rck = s.rck := by cases l <;> rfl
@[simp] theorem State.setLink_sif (s : State) (l : Link) (ls : LinkState) : (s.setLink l ls).sif = s.sif := by cases l <;> rfl
@[simp] theorem State.setLink_psq (s : State) (l : Link) (ls : LinkState) : (s.setLink l ls).psq = s.psq := by cases l <;> rfl
@[simp] theorem State.setLink_slots (s : State) (l : Link) (ls : LinkState) : (s.setLink l ls).slots = s.slots := by cases l <;> rfl
@[simp] theorem State.setLink_qac (s : State) (l : Link) (ls : LinkState) : (s.setLink l ls).qac = s.qac := by cases l <;> rfl
@[simp] theorem State.setLink_tau (s : State) (l : Link) (ls : LinkState) : (s.setLink l ls).tau = s.tau := by cases l <;> rfl
@[simp] theorem State.setLink_rst (s : State) (l : Link) (ls : LinkState) : (s.setLink l ls).rst = s.rst := by cases l <;> rfl
@[simp] theorem State.setLink_pcu (s : State) (l : Link) (ls : LinkState) : (s.setLink l ls).pcu = s.pcu := by cases l <;> rfl
@[simp] theorem State.setLink_ttb (s : State) (l : Link) (ls : LinkState) : (s.setLink l ls).ttb = s.ttb := by cases l <;> rfl
@[simp] theorem State.setLink_fetch (s : State) (l : Link) (ls : LinkState) : (s.setLink l ls).fetch = s.fetch := by cases l <;> rfl
@[simp] theorem State.setLink_mail (s : State) (l : Link) (ls : LinkState) : (s.setLink l ls).mail = s.mail := by cases l <;> rfl
@[simp] theorem State.setLink_ticks (s : State) (l : Link) (ls : LinkState) : (s.setLink l ls).ticks = s.ticks := by cases l <;> rfl
@[simp] theorem State.setLink_resetDue (s : State) (l : Link) (ls : LinkState) : (s.setLink l ls).resetDue = s.resetDue := by cases l <;> rfl
@[simp] theorem State.setLink_freeSeed (s : State) (l : Link) (ls : LinkState) : (s.setLink l ls).freeSeed = s.freeSeed := by cases l <;> rfl
@[simp] theorem State.setLink_pending (s : State) (l : Link) (ls : LinkState) : (s.setLink l ls).pending = s.pending := by cases l <;> rfl

@[simp] theorem State.hold_rck (s : State) (l : Link) (h : Option Held) : (s.hold l h).rck = s.rck := by cases l <;> rfl
@[simp] theorem State.hold_sif (s : State) (l : Link) (h : Option Held) : (s.hold l h).sif = s.sif := by cases l <;> rfl
@[simp] theorem State.hold_psq (s : State) (l : Link) (h : Option Held) : (s.hold l h).psq = s.psq := by cases l <;> rfl
@[simp] theorem State.hold_slots (s : State) (l : Link) (h : Option Held) : (s.hold l h).slots = s.slots := by cases l <;> rfl
@[simp] theorem State.hold_qac (s : State) (l : Link) (h : Option Held) : (s.hold l h).qac = s.qac := by cases l <;> rfl
@[simp] theorem State.hold_tau (s : State) (l : Link) (h : Option Held) : (s.hold l h).tau = s.tau := by cases l <;> rfl
@[simp] theorem State.hold_rst (s : State) (l : Link) (h : Option Held) : (s.hold l h).rst = s.rst := by cases l <;> rfl
@[simp] theorem State.hold_pcu (s : State) (l : Link) (h : Option Held) : (s.hold l h).pcu = s.pcu := by cases l <;> rfl
@[simp] theorem State.hold_ttb (s : State) (l : Link) (h : Option Held) : (s.hold l h).ttb = s.ttb := by cases l <;> rfl
@[simp] theorem State.hold_fetch (s : State) (l : Link) (h : Option Held) : (s.hold l h).fetch = s.fetch := by cases l <;> rfl
@[simp] theorem State.hold_mail (s : State) (l : Link) (h : Option Held) : (s.hold l h).mail = s.mail := by cases l <;> rfl
@[simp] theorem State.hold_ticks (s : State) (l : Link) (h : Option Held) : (s.hold l h).ticks = s.ticks := by cases l <;> rfl
@[simp] theorem State.hold_resetDue (s : State) (l : Link) (h : Option Held) : (s.hold l h).resetDue = s.resetDue := by cases l <;> rfl
@[simp] theorem State.hold_freeSeed (s : State) (l : Link) (h : Option Held) : (s.hold l h).freeSeed = s.freeSeed := by cases l <;> rfl
@[simp] theorem State.hold_pending (s : State) (l : Link) (h : Option Held) : (s.hold l h).pending = s.pending := by cases l <;> rfl

@[simp] theorem State.answerUntaken_rck (s : State) (l : Link) (n : Nat) (k : RespCode) : (s.answerUntaken l n k).rck = s.rck := by cases l <;> rfl
@[simp] theorem State.answerUntaken_sif (s : State) (l : Link) (n : Nat) (k : RespCode) : (s.answerUntaken l n k).sif = s.sif := by cases l <;> rfl
@[simp] theorem State.answerUntaken_psq (s : State) (l : Link) (n : Nat) (k : RespCode) : (s.answerUntaken l n k).psq = s.psq := by cases l <;> rfl
@[simp] theorem State.answerUntaken_slots (s : State) (l : Link) (n : Nat) (k : RespCode) : (s.answerUntaken l n k).slots = s.slots := by cases l <;> rfl
@[simp] theorem State.answerUntaken_qac (s : State) (l : Link) (n : Nat) (k : RespCode) : (s.answerUntaken l n k).qac = s.qac := by cases l <;> rfl
@[simp] theorem State.answerUntaken_tau (s : State) (l : Link) (n : Nat) (k : RespCode) : (s.answerUntaken l n k).tau = s.tau := by cases l <;> rfl
@[simp] theorem State.answerUntaken_rst (s : State) (l : Link) (n : Nat) (k : RespCode) : (s.answerUntaken l n k).rst = s.rst := by cases l <;> rfl
@[simp] theorem State.answerUntaken_pcu (s : State) (l : Link) (n : Nat) (k : RespCode) : (s.answerUntaken l n k).pcu = s.pcu := by cases l <;> rfl
@[simp] theorem State.answerUntaken_ttb (s : State) (l : Link) (n : Nat) (k : RespCode) : (s.answerUntaken l n k).ttb = s.ttb := by cases l <;> rfl
@[simp] theorem State.answerUntaken_fetch (s : State) (l : Link) (n : Nat) (k : RespCode) : (s.answerUntaken l n k).fetch = s.fetch := by cases l <;> rfl
@[simp] theorem State.answerUntaken_mail (s : State) (l : Link) (n : Nat) (k : RespCode) : (s.answerUntaken l n k).mail = s.mail := by cases l <;> rfl
@[simp] theorem State.answerUntaken_ticks (s : State) (l : Link) (n : Nat) (k : RespCode) : (s.answerUntaken l n k).ticks = s.ticks := by cases l <;> rfl
@[simp] theorem State.answerUntaken_resetDue (s : State) (l : Link) (n : Nat) (k : RespCode) : (s.answerUntaken l n k).resetDue = s.resetDue := by cases l <;> rfl
@[simp] theorem State.answerUntaken_freeSeed (s : State) (l : Link) (n : Nat) (k : RespCode) : (s.answerUntaken l n k).freeSeed = s.freeSeed := by cases l <;> rfl
@[simp] theorem State.answerUntaken_pending (s : State) (l : Link) (n : Nat) (k : RespCode) : (s.answerUntaken l n k).pending = s.pending := by cases l <;> rfl

@[simp] theorem State.respond_rck (s : State) (l : Link) (n : Nat) (k : RespCode) (p : List Byte) : (s.respond l n k p).rck = s.rck := by cases l <;> rfl
@[simp] theorem State.respond_sif (s : State) (l : Link) (n : Nat) (k : RespCode) (p : List Byte) : (s.respond l n k p).sif = s.sif := by cases l <;> rfl
@[simp] theorem State.respond_psq (s : State) (l : Link) (n : Nat) (k : RespCode) (p : List Byte) : (s.respond l n k p).psq = s.psq := by cases l <;> rfl
@[simp] theorem State.respond_slots (s : State) (l : Link) (n : Nat) (k : RespCode) (p : List Byte) : (s.respond l n k p).slots = s.slots := by cases l <;> rfl
@[simp] theorem State.respond_qac (s : State) (l : Link) (n : Nat) (k : RespCode) (p : List Byte) : (s.respond l n k p).qac = s.qac := by cases l <;> rfl
@[simp] theorem State.respond_tau (s : State) (l : Link) (n : Nat) (k : RespCode) (p : List Byte) : (s.respond l n k p).tau = s.tau := by cases l <;> rfl
@[simp] theorem State.respond_rst (s : State) (l : Link) (n : Nat) (k : RespCode) (p : List Byte) : (s.respond l n k p).rst = s.rst := by cases l <;> rfl
@[simp] theorem State.respond_pcu (s : State) (l : Link) (n : Nat) (k : RespCode) (p : List Byte) : (s.respond l n k p).pcu = s.pcu := by cases l <;> rfl
@[simp] theorem State.respond_ttb (s : State) (l : Link) (n : Nat) (k : RespCode) (p : List Byte) : (s.respond l n k p).ttb = s.ttb := by cases l <;> rfl
@[simp] theorem State.respond_fetch (s : State) (l : Link) (n : Nat) (k : RespCode) (p : List Byte) : (s.respond l n k p).fetch = s.fetch := by cases l <;> rfl
@[simp] theorem State.respond_mail (s : State) (l : Link) (n : Nat) (k : RespCode) (p : List Byte) : (s.respond l n k p).mail = s.mail := by cases l <;> rfl
@[simp] theorem State.respond_ticks (s : State) (l : Link) (n : Nat) (k : RespCode) (p : List Byte) : (s.respond l n k p).ticks = s.ticks := by cases l <;> rfl
@[simp] theorem State.respond_resetDue (s : State) (l : Link) (n : Nat) (k : RespCode) (p : List Byte) : (s.respond l n k p).resetDue = s.resetDue := by cases l <;> rfl
@[simp] theorem State.respond_freeSeed (s : State) (l : Link) (n : Nat) (k : RespCode) (p : List Byte) : (s.respond l n k p).freeSeed = s.freeSeed := by cases l <;> rfl
@[simp] theorem State.respond_pending (s : State) (l : Link) (n : Nat) (k : RespCode) (p : List Byte) : (s.respond l n k p).pending = s.pending := by cases l <;> rfl

@[simp] theorem State.post_rck (s : State) (k : NoticeKind) (n : Nat) : (s.post k n).rck = s.rck := rfl
@[simp] theorem State.post_sif (s : State) (k : NoticeKind) (n : Nat) : (s.post k n).sif = s.sif := rfl
@[simp] theorem State.post_psq (s : State) (k : NoticeKind) (n : Nat) : (s.post k n).psq = s.psq := rfl
@[simp] theorem State.post_slots (s : State) (k : NoticeKind) (n : Nat) : (s.post k n).slots = s.slots := rfl
@[simp] theorem State.post_qac (s : State) (k : NoticeKind) (n : Nat) : (s.post k n).qac = s.qac := rfl
@[simp] theorem State.post_tau (s : State) (k : NoticeKind) (n : Nat) : (s.post k n).tau = s.tau := rfl
@[simp] theorem State.post_rst (s : State) (k : NoticeKind) (n : Nat) : (s.post k n).rst = s.rst := rfl
@[simp] theorem State.post_pcu (s : State) (k : NoticeKind) (n : Nat) : (s.post k n).pcu = s.pcu := rfl
@[simp] theorem State.post_ttb (s : State) (k : NoticeKind) (n : Nat) : (s.post k n).ttb = s.ttb := rfl
@[simp] theorem State.post_fetch (s : State) (k : NoticeKind) (n : Nat) : (s.post k n).fetch = s.fetch := rfl
@[simp] theorem State.post_mail (s : State) (k : NoticeKind) (n : Nat) : (s.post k n).mail = s.mail := rfl
@[simp] theorem State.post_ticks (s : State) (k : NoticeKind) (n : Nat) : (s.post k n).ticks = s.ticks := rfl
@[simp] theorem State.post_resetDue (s : State) (k : NoticeKind) (n : Nat) : (s.post k n).resetDue = s.resetDue := rfl
@[simp] theorem State.post_freeSeed (s : State) (k : NoticeKind) (n : Nat) : (s.post k n).freeSeed = s.freeSeed := rfl
@[simp] theorem State.post_pending (s : State) (k : NoticeKind) (n : Nat) : (s.post k n).pending = s.pending := rfl

@[simp] theorem State.clearOverride_testLink (s : State) : s.clearOverride.testLink = s.testLink := rfl
@[simp] theorem State.clearOverride_handlerLink (s : State) : s.clearOverride.handlerLink = s.handlerLink := rfl
@[simp] theorem State.clearOverride_lineLink (s : State) : s.clearOverride.lineLink = s.lineLink := rfl
@[simp] theorem State.clearOverride_rck (s : State) : s.clearOverride.rck = s.rck := rfl
@[simp] theorem State.clearOverride_sif (s : State) : s.clearOverride.sif = s.sif := rfl
@[simp] theorem State.clearOverride_psq (s : State) : s.clearOverride.psq = s.psq := rfl
@[simp] theorem State.clearOverride_slots (s : State) : s.clearOverride.slots = s.slots := rfl
@[simp] theorem State.clearOverride_qac (s : State) : s.clearOverride.qac = s.qac := rfl
@[simp] theorem State.clearOverride_tau (s : State) : s.clearOverride.tau = s.tau := rfl
@[simp] theorem State.clearOverride_pcu (s : State) : s.clearOverride.pcu = s.pcu := rfl
@[simp] theorem State.clearOverride_ttb (s : State) : s.clearOverride.ttb = s.ttb := rfl
@[simp] theorem State.clearOverride_fetch (s : State) : s.clearOverride.fetch = s.fetch := rfl
@[simp] theorem State.clearOverride_mail (s : State) : s.clearOverride.mail = s.mail := rfl
@[simp] theorem State.clearOverride_ticks (s : State) : s.clearOverride.ticks = s.ticks := rfl
@[simp] theorem State.clearOverride_resetDue (s : State) : s.clearOverride.resetDue = s.resetDue := rfl
@[simp] theorem State.clearOverride_freeSeed (s : State) : s.clearOverride.freeSeed = s.freeSeed := rfl
@[simp] theorem State.clearOverride_pending (s : State) : s.clearOverride.pending = s.pending := rfl

@[simp] theorem State.setMail_testLink (s : State) (i : Slot) (m : Mail) : (s.setMail i m).testLink = s.testLink := rfl
@[simp] theorem State.setMail_handlerLink (s : State) (i : Slot) (m : Mail) : (s.setMail i m).handlerLink = s.handlerLink := rfl
@[simp] theorem State.setMail_lineLink (s : State) (i : Slot) (m : Mail) : (s.setMail i m).lineLink = s.lineLink := rfl
@[simp] theorem State.setMail_rck (s : State) (i : Slot) (m : Mail) : (s.setMail i m).rck = s.rck := rfl
@[simp] theorem State.setMail_sif (s : State) (i : Slot) (m : Mail) : (s.setMail i m).sif = s.sif := rfl
@[simp] theorem State.setMail_psq (s : State) (i : Slot) (m : Mail) : (s.setMail i m).psq = s.psq := rfl
@[simp] theorem State.setMail_slots (s : State) (i : Slot) (m : Mail) : (s.setMail i m).slots = s.slots := rfl
@[simp] theorem State.setMail_qac (s : State) (i : Slot) (m : Mail) : (s.setMail i m).qac = s.qac := rfl
@[simp] theorem State.setMail_tau (s : State) (i : Slot) (m : Mail) : (s.setMail i m).tau = s.tau := rfl
@[simp] theorem State.setMail_rst (s : State) (i : Slot) (m : Mail) : (s.setMail i m).rst = s.rst := rfl
@[simp] theorem State.setMail_pcu (s : State) (i : Slot) (m : Mail) : (s.setMail i m).pcu = s.pcu := rfl
@[simp] theorem State.setMail_ttb (s : State) (i : Slot) (m : Mail) : (s.setMail i m).ttb = s.ttb := rfl
@[simp] theorem State.setMail_fetch (s : State) (i : Slot) (m : Mail) : (s.setMail i m).fetch = s.fetch := rfl
@[simp] theorem State.setMail_ticks (s : State) (i : Slot) (m : Mail) : (s.setMail i m).ticks = s.ticks := rfl
@[simp] theorem State.setMail_resetDue (s : State) (i : Slot) (m : Mail) : (s.setMail i m).resetDue = s.resetDue := rfl
@[simp] theorem State.setMail_freeSeed (s : State) (i : Slot) (m : Mail) : (s.setMail i m).freeSeed = s.freeSeed := rfl
@[simp] theorem State.setMail_pending (s : State) (i : Slot) (m : Mail) : (s.setMail i m).pending = s.pending := rfl

@[simp] theorem State.putSlot_testLink (s : State) (i : Slot) (r : SlotRecord) : (s.putSlot i r).testLink = s.testLink := rfl
@[simp] theorem State.putSlot_handlerLink (s : State) (i : Slot) (r : SlotRecord) : (s.putSlot i r).handlerLink = s.handlerLink := rfl
@[simp] theorem State.putSlot_lineLink (s : State) (i : Slot) (r : SlotRecord) : (s.putSlot i r).lineLink = s.lineLink := rfl
@[simp] theorem State.putSlot_rck (s : State) (i : Slot) (r : SlotRecord) : (s.putSlot i r).rck = s.rck := rfl
@[simp] theorem State.putSlot_sif (s : State) (i : Slot) (r : SlotRecord) : (s.putSlot i r).sif = s.sif := rfl
@[simp] theorem State.putSlot_psq (s : State) (i : Slot) (r : SlotRecord) : (s.putSlot i r).psq = s.psq := rfl
@[simp] theorem State.putSlot_qac (s : State) (i : Slot) (r : SlotRecord) : (s.putSlot i r).qac = s.qac := rfl
@[simp] theorem State.putSlot_tau (s : State) (i : Slot) (r : SlotRecord) : (s.putSlot i r).tau = s.tau := rfl
@[simp] theorem State.putSlot_rst (s : State) (i : Slot) (r : SlotRecord) : (s.putSlot i r).rst = s.rst := rfl
@[simp] theorem State.putSlot_pcu (s : State) (i : Slot) (r : SlotRecord) : (s.putSlot i r).pcu = s.pcu := rfl
@[simp] theorem State.putSlot_ttb (s : State) (i : Slot) (r : SlotRecord) : (s.putSlot i r).ttb = s.ttb := rfl
@[simp] theorem State.putSlot_fetch (s : State) (i : Slot) (r : SlotRecord) : (s.putSlot i r).fetch = s.fetch := rfl
@[simp] theorem State.putSlot_ticks (s : State) (i : Slot) (r : SlotRecord) : (s.putSlot i r).ticks = s.ticks := rfl
@[simp] theorem State.putSlot_resetDue (s : State) (i : Slot) (r : SlotRecord) : (s.putSlot i r).resetDue = s.resetDue := rfl
@[simp] theorem State.putSlot_freeSeed (s : State) (i : Slot) (r : SlotRecord) : (s.putSlot i r).freeSeed = s.freeSeed := rfl
@[simp] theorem State.putSlot_pending (s : State) (i : Slot) (r : SlotRecord) : (s.putSlot i r).pending = s.pending := rfl

@[simp] theorem State.giveOrder_testLink (s : State) (i : Slot) (o : PowerOrder) : (s.giveOrder i o).testLink = s.testLink := rfl
@[simp] theorem State.giveOrder_handlerLink (s : State) (i : Slot) (o : PowerOrder) : (s.giveOrder i o).handlerLink = s.handlerLink := rfl
@[simp] theorem State.giveOrder_lineLink (s : State) (i : Slot) (o : PowerOrder) : (s.giveOrder i o).lineLink = s.lineLink := rfl
@[simp] theorem State.giveOrder_rck (s : State) (i : Slot) (o : PowerOrder) : (s.giveOrder i o).rck = s.rck := rfl
@[simp] theorem State.giveOrder_sif (s : State) (i : Slot) (o : PowerOrder) : (s.giveOrder i o).sif = s.sif := rfl
@[simp] theorem State.giveOrder_psq (s : State) (i : Slot) (o : PowerOrder) : (s.giveOrder i o).psq = s.psq := rfl
@[simp] theorem State.giveOrder_slots (s : State) (i : Slot) (o : PowerOrder) : (s.giveOrder i o).slots = s.slots := rfl
@[simp] theorem State.giveOrder_qac (s : State) (i : Slot) (o : PowerOrder) : (s.giveOrder i o).qac = s.qac := rfl
@[simp] theorem State.giveOrder_tau (s : State) (i : Slot) (o : PowerOrder) : (s.giveOrder i o).tau = s.tau := rfl
@[simp] theorem State.giveOrder_rst (s : State) (i : Slot) (o : PowerOrder) : (s.giveOrder i o).rst = s.rst := rfl
@[simp] theorem State.giveOrder_pcu (s : State) (i : Slot) (o : PowerOrder) : (s.giveOrder i o).pcu = s.pcu := rfl
@[simp] theorem State.giveOrder_ttb (s : State) (i : Slot) (o : PowerOrder) : (s.giveOrder i o).ttb = s.ttb := rfl
@[simp] theorem State.giveOrder_fetch (s : State) (i : Slot) (o : PowerOrder) : (s.giveOrder i o).fetch = s.fetch := rfl
@[simp] theorem State.giveOrder_ticks (s : State) (i : Slot) (o : PowerOrder) : (s.giveOrder i o).ticks = s.ticks := rfl
@[simp] theorem State.giveOrder_resetDue (s : State) (i : Slot) (o : PowerOrder) : (s.giveOrder i o).resetDue = s.resetDue := rfl
@[simp] theorem State.giveOrder_freeSeed (s : State) (i : Slot) (o : PowerOrder) : (s.giveOrder i o).freeSeed = s.freeSeed := rfl
@[simp] theorem State.giveOrder_pending (s : State) (i : Slot) (o : PowerOrder) : (s.giveOrder i o).pending = s.pending := rfl

@[simp] theorem State.giveReport_testLink (s : State) (i : Slot) (o : PowerReport) : (s.giveReport i o).testLink = s.testLink := rfl
@[simp] theorem State.giveReport_handlerLink (s : State) (i : Slot) (o : PowerReport) : (s.giveReport i o).handlerLink = s.handlerLink := rfl
@[simp] theorem State.giveReport_lineLink (s : State) (i : Slot) (o : PowerReport) : (s.giveReport i o).lineLink = s.lineLink := rfl
@[simp] theorem State.giveReport_rck (s : State) (i : Slot) (o : PowerReport) : (s.giveReport i o).rck = s.rck := rfl
@[simp] theorem State.giveReport_sif (s : State) (i : Slot) (o : PowerReport) : (s.giveReport i o).sif = s.sif := rfl
@[simp] theorem State.giveReport_psq (s : State) (i : Slot) (o : PowerReport) : (s.giveReport i o).psq = s.psq := rfl
@[simp] theorem State.giveReport_slots (s : State) (i : Slot) (o : PowerReport) : (s.giveReport i o).slots = s.slots := rfl
@[simp] theorem State.giveReport_qac (s : State) (i : Slot) (o : PowerReport) : (s.giveReport i o).qac = s.qac := rfl
@[simp] theorem State.giveReport_tau (s : State) (i : Slot) (o : PowerReport) : (s.giveReport i o).tau = s.tau := rfl
@[simp] theorem State.giveReport_rst (s : State) (i : Slot) (o : PowerReport) : (s.giveReport i o).rst = s.rst := rfl
@[simp] theorem State.giveReport_pcu (s : State) (i : Slot) (o : PowerReport) : (s.giveReport i o).pcu = s.pcu := rfl
@[simp] theorem State.giveReport_ttb (s : State) (i : Slot) (o : PowerReport) : (s.giveReport i o).ttb = s.ttb := rfl
@[simp] theorem State.giveReport_fetch (s : State) (i : Slot) (o : PowerReport) : (s.giveReport i o).fetch = s.fetch := rfl
@[simp] theorem State.giveReport_ticks (s : State) (i : Slot) (o : PowerReport) : (s.giveReport i o).ticks = s.ticks := rfl
@[simp] theorem State.giveReport_resetDue (s : State) (i : Slot) (o : PowerReport) : (s.giveReport i o).resetDue = s.resetDue := rfl
@[simp] theorem State.giveReport_freeSeed (s : State) (i : Slot) (o : PowerReport) : (s.giveReport i o).freeSeed = s.freeSeed := rfl
@[simp] theorem State.giveReport_pending (s : State) (i : Slot) (o : PowerReport) : (s.giveReport i o).pending = s.pending := rfl

@[simp] theorem State.dropOrder_testLink (s : State) (i : Slot) : (s.dropOrder i).testLink = s.testLink := rfl
@[simp] theorem State.dropOrder_handlerLink (s : State) (i : Slot) : (s.dropOrder i).handlerLink = s.handlerLink := rfl
@[simp] theorem State.dropOrder_lineLink (s : State) (i : Slot) : (s.dropOrder i).lineLink = s.lineLink := rfl
@[simp] theorem State.dropOrder_rck (s : State) (i : Slot) : (s.dropOrder i).rck = s.rck := rfl
@[simp] theorem State.dropOrder_sif (s : State) (i : Slot) : (s.dropOrder i).sif = s.sif := rfl
@[simp] theorem State.dropOrder_psq (s : State) (i : Slot) : (s.dropOrder i).psq = s.psq := rfl
@[simp] theorem State.dropOrder_slots (s : State) (i : Slot) : (s.dropOrder i).slots = s.slots := rfl
@[simp] theorem State.dropOrder_qac (s : State) (i : Slot) : (s.dropOrder i).qac = s.qac := rfl
@[simp] theorem State.dropOrder_tau (s : State) (i : Slot) : (s.dropOrder i).tau = s.tau := rfl
@[simp] theorem State.dropOrder_rst (s : State) (i : Slot) : (s.dropOrder i).rst = s.rst := rfl
@[simp] theorem State.dropOrder_pcu (s : State) (i : Slot) : (s.dropOrder i).pcu = s.pcu := rfl
@[simp] theorem State.dropOrder_ttb (s : State) (i : Slot) : (s.dropOrder i).ttb = s.ttb := rfl
@[simp] theorem State.dropOrder_fetch (s : State) (i : Slot) : (s.dropOrder i).fetch = s.fetch := rfl
@[simp] theorem State.dropOrder_ticks (s : State) (i : Slot) : (s.dropOrder i).ticks = s.ticks := rfl
@[simp] theorem State.dropOrder_resetDue (s : State) (i : Slot) : (s.dropOrder i).resetDue = s.resetDue := rfl
@[simp] theorem State.dropOrder_freeSeed (s : State) (i : Slot) : (s.dropOrder i).freeSeed = s.freeSeed := rfl
@[simp] theorem State.dropOrder_pending (s : State) (i : Slot) : (s.dropOrder i).pending = s.pending := rfl

@[simp] theorem State.dropReport_testLink (s : State) (i : Slot) : (s.dropReport i).testLink = s.testLink := rfl
@[simp] theorem State.dropReport_handlerLink (s : State) (i : Slot) : (s.dropReport i).handlerLink = s.handlerLink := rfl
@[simp] theorem State.dropReport_lineLink (s : State) (i : Slot) : (s.dropReport i).lineLink = s.lineLink := rfl
@[simp] theorem State.dropReport_rck (s : State) (i : Slot) : (s.dropReport i).rck = s.rck := rfl
@[simp] theorem State.dropReport_sif (s : State) (i : Slot) : (s.dropReport i).sif = s.sif := rfl
@[simp] theorem State.dropReport_psq (s : State) (i : Slot) : (s.dropReport i).psq = s.psq := rfl
@[simp] theorem State.dropReport_slots (s : State) (i : Slot) : (s.dropReport i).slots = s.slots := rfl
@[simp] theorem State.dropReport_qac (s : State) (i : Slot) : (s.dropReport i).qac = s.qac := rfl
@[simp] theorem State.dropReport_tau (s : State) (i : Slot) : (s.dropReport i).tau = s.tau := rfl
@[simp] theorem State.dropReport_rst (s : State) (i : Slot) : (s.dropReport i).rst = s.rst := rfl
@[simp] theorem State.dropReport_pcu (s : State) (i : Slot) : (s.dropReport i).pcu = s.pcu := rfl
@[simp] theorem State.dropReport_ttb (s : State) (i : Slot) : (s.dropReport i).ttb = s.ttb := rfl
@[simp] theorem State.dropReport_fetch (s : State) (i : Slot) : (s.dropReport i).fetch = s.fetch := rfl
@[simp] theorem State.dropReport_ticks (s : State) (i : Slot) : (s.dropReport i).ticks = s.ticks := rfl
@[simp] theorem State.dropReport_resetDue (s : State) (i : Slot) : (s.dropReport i).resetDue = s.resetDue := rfl
@[simp] theorem State.dropReport_freeSeed (s : State) (i : Slot) : (s.dropReport i).freeSeed = s.freeSeed := rfl
@[simp] theorem State.dropReport_pending (s : State) (i : Slot) : (s.dropReport i).pending = s.pending := rfl

@[simp] theorem State.reportCapture_testLink (s : State) (i : Slot) : (s.reportCapture i).testLink = s.testLink := rfl
@[simp] theorem State.reportCapture_handlerLink (s : State) (i : Slot) : (s.reportCapture i).handlerLink = s.handlerLink := rfl
@[simp] theorem State.reportCapture_lineLink (s : State) (i : Slot) : (s.reportCapture i).lineLink = s.lineLink := rfl
@[simp] theorem State.reportCapture_rck (s : State) (i : Slot) : (s.reportCapture i).rck = s.rck := rfl
@[simp] theorem State.reportCapture_sif (s : State) (i : Slot) : (s.reportCapture i).sif = s.sif := rfl
@[simp] theorem State.reportCapture_psq (s : State) (i : Slot) : (s.reportCapture i).psq = s.psq := rfl
@[simp] theorem State.reportCapture_slots (s : State) (i : Slot) : (s.reportCapture i).slots = s.slots := rfl
@[simp] theorem State.reportCapture_qac (s : State) (i : Slot) : (s.reportCapture i).qac = s.qac := rfl
@[simp] theorem State.reportCapture_tau (s : State) (i : Slot) : (s.reportCapture i).tau = s.tau := rfl
@[simp] theorem State.reportCapture_rst (s : State) (i : Slot) : (s.reportCapture i).rst = s.rst := rfl
@[simp] theorem State.reportCapture_pcu (s : State) (i : Slot) : (s.reportCapture i).pcu = s.pcu := rfl
@[simp] theorem State.reportCapture_ttb (s : State) (i : Slot) : (s.reportCapture i).ttb = s.ttb := rfl
@[simp] theorem State.reportCapture_fetch (s : State) (i : Slot) : (s.reportCapture i).fetch = s.fetch := rfl
@[simp] theorem State.reportCapture_ticks (s : State) (i : Slot) : (s.reportCapture i).ticks = s.ticks := rfl
@[simp] theorem State.reportCapture_resetDue (s : State) (i : Slot) : (s.reportCapture i).resetDue = s.resetDue := rfl
@[simp] theorem State.reportCapture_freeSeed (s : State) (i : Slot) : (s.reportCapture i).freeSeed = s.freeSeed := rfl
@[simp] theorem State.reportCapture_pending (s : State) (i : Slot) : (s.reportCapture i).pending = s.pending := rfl

@[simp] theorem State.compareDeadlines_testLink (s : State) : s.compareDeadlines.testLink = s.testLink := by simp only [State.compareDeadlines]
@[simp] theorem State.compareDeadlines_handlerLink (s : State) : s.compareDeadlines.handlerLink = s.handlerLink := by simp only [State.compareDeadlines]
@[simp] theorem State.compareDeadlines_lineLink (s : State) : s.compareDeadlines.lineLink = s.lineLink := by simp only [State.compareDeadlines]
@[simp] theorem State.compareDeadlines_sif (s : State) : s.compareDeadlines.sif = s.sif := by simp only [State.compareDeadlines]
@[simp] theorem State.compareDeadlines_psq (s : State) : s.compareDeadlines.psq = s.psq := by simp only [State.compareDeadlines]
@[simp] theorem State.compareDeadlines_slots (s : State) : s.compareDeadlines.slots = s.slots := by simp only [State.compareDeadlines]
@[simp] theorem State.compareDeadlines_qac (s : State) : s.compareDeadlines.qac = s.qac := by simp only [State.compareDeadlines]
@[simp] theorem State.compareDeadlines_tau (s : State) : s.compareDeadlines.tau = s.tau := by simp only [State.compareDeadlines]
@[simp] theorem State.compareDeadlines_rst (s : State) : s.compareDeadlines.rst = s.rst := by simp only [State.compareDeadlines]
@[simp] theorem State.compareDeadlines_pcu (s : State) : s.compareDeadlines.pcu = s.pcu := by simp only [State.compareDeadlines]
@[simp] theorem State.compareDeadlines_ttb (s : State) : s.compareDeadlines.ttb = s.ttb := by simp only [State.compareDeadlines]
@[simp] theorem State.compareDeadlines_fetch (s : State) : s.compareDeadlines.fetch = s.fetch := by simp only [State.compareDeadlines]
@[simp] theorem State.compareDeadlines_ticks (s : State) : s.compareDeadlines.ticks = s.ticks := by simp only [State.compareDeadlines]
@[simp] theorem State.compareDeadlines_resetDue (s : State) : s.compareDeadlines.resetDue = s.resetDue := by simp only [State.compareDeadlines]
@[simp] theorem State.compareDeadlines_freeSeed (s : State) : s.compareDeadlines.freeSeed = s.freeSeed := by simp only [State.compareDeadlines]
@[simp] theorem State.compareDeadlines_pending (s : State) : s.compareDeadlines.pending = s.pending := by simp only [State.compareDeadlines]

@[simp] theorem State.arm_testLink (s : State) (i : Slot) (d : Option Deadline) : (s.arm i d).testLink = s.testLink := rfl
@[simp] theorem State.arm_handlerLink (s : State) (i : Slot) (d : Option Deadline) : (s.arm i d).handlerLink = s.handlerLink := rfl
@[simp] theorem State.arm_lineLink (s : State) (i : Slot) (d : Option Deadline) : (s.arm i d).lineLink = s.lineLink := rfl
@[simp] theorem State.arm_sif (s : State) (i : Slot) (d : Option Deadline) : (s.arm i d).sif = s.sif := rfl
@[simp] theorem State.arm_psq (s : State) (i : Slot) (d : Option Deadline) : (s.arm i d).psq = s.psq := rfl
@[simp] theorem State.arm_slots (s : State) (i : Slot) (d : Option Deadline) : (s.arm i d).slots = s.slots := rfl
@[simp] theorem State.arm_qac (s : State) (i : Slot) (d : Option Deadline) : (s.arm i d).qac = s.qac := rfl
@[simp] theorem State.arm_tau (s : State) (i : Slot) (d : Option Deadline) : (s.arm i d).tau = s.tau := rfl
@[simp] theorem State.arm_rst (s : State) (i : Slot) (d : Option Deadline) : (s.arm i d).rst = s.rst := rfl
@[simp] theorem State.arm_pcu (s : State) (i : Slot) (d : Option Deadline) : (s.arm i d).pcu = s.pcu := rfl
@[simp] theorem State.arm_ttb (s : State) (i : Slot) (d : Option Deadline) : (s.arm i d).ttb = s.ttb := rfl
@[simp] theorem State.arm_fetch (s : State) (i : Slot) (d : Option Deadline) : (s.arm i d).fetch = s.fetch := rfl
@[simp] theorem State.arm_ticks (s : State) (i : Slot) (d : Option Deadline) : (s.arm i d).ticks = s.ticks := rfl
@[simp] theorem State.arm_resetDue (s : State) (i : Slot) (d : Option Deadline) : (s.arm i d).resetDue = s.resetDue := rfl
@[simp] theorem State.arm_freeSeed (s : State) (i : Slot) (d : Option Deadline) : (s.arm i d).freeSeed = s.freeSeed := rfl
@[simp] theorem State.arm_pending (s : State) (i : Slot) (d : Option Deadline) : (s.arm i d).pending = s.pending := rfl

@[simp] theorem State.setBlock_testLink (s : State) (b : BlockNo) (k : RecipeBlock) : (s.setBlock b k).testLink = s.testLink := rfl
@[simp] theorem State.setBlock_handlerLink (s : State) (b : BlockNo) (k : RecipeBlock) : (s.setBlock b k).handlerLink = s.handlerLink := rfl
@[simp] theorem State.setBlock_lineLink (s : State) (b : BlockNo) (k : RecipeBlock) : (s.setBlock b k).lineLink = s.lineLink := rfl
@[simp] theorem State.setBlock_rck (s : State) (b : BlockNo) (k : RecipeBlock) : (s.setBlock b k).rck = s.rck := rfl
@[simp] theorem State.setBlock_sif (s : State) (b : BlockNo) (k : RecipeBlock) : (s.setBlock b k).sif = s.sif := rfl
@[simp] theorem State.setBlock_psq (s : State) (b : BlockNo) (k : RecipeBlock) : (s.setBlock b k).psq = s.psq := rfl
@[simp] theorem State.setBlock_slots (s : State) (b : BlockNo) (k : RecipeBlock) : (s.setBlock b k).slots = s.slots := rfl
@[simp] theorem State.setBlock_qac (s : State) (b : BlockNo) (k : RecipeBlock) : (s.setBlock b k).qac = s.qac := rfl
@[simp] theorem State.setBlock_tau (s : State) (b : BlockNo) (k : RecipeBlock) : (s.setBlock b k).tau = s.tau := rfl
@[simp] theorem State.setBlock_pcu (s : State) (b : BlockNo) (k : RecipeBlock) : (s.setBlock b k).pcu = s.pcu := rfl
@[simp] theorem State.setBlock_ttb (s : State) (b : BlockNo) (k : RecipeBlock) : (s.setBlock b k).ttb = s.ttb := rfl
@[simp] theorem State.setBlock_fetch (s : State) (b : BlockNo) (k : RecipeBlock) : (s.setBlock b k).fetch = s.fetch := rfl
@[simp] theorem State.setBlock_mail (s : State) (b : BlockNo) (k : RecipeBlock) : (s.setBlock b k).mail = s.mail := rfl
@[simp] theorem State.setBlock_ticks (s : State) (b : BlockNo) (k : RecipeBlock) : (s.setBlock b k).ticks = s.ticks := rfl
@[simp] theorem State.setBlock_resetDue (s : State) (b : BlockNo) (k : RecipeBlock) : (s.setBlock b k).resetDue = s.resetDue := rfl
@[simp] theorem State.setBlock_freeSeed (s : State) (b : BlockNo) (k : RecipeBlock) : (s.setBlock b k).freeSeed = s.freeSeed := rfl
@[simp] theorem State.setBlock_pending (s : State) (b : BlockNo) (k : RecipeBlock) : (s.setBlock b k).pending = s.pending := rfl

@[simp] theorem State.releaseRef_testLink (s : State) (b : BlockNo) : (s.releaseRef b).testLink = s.testLink := rfl
@[simp] theorem State.releaseRef_handlerLink (s : State) (b : BlockNo) : (s.releaseRef b).handlerLink = s.handlerLink := rfl
@[simp] theorem State.releaseRef_lineLink (s : State) (b : BlockNo) : (s.releaseRef b).lineLink = s.lineLink := rfl
@[simp] theorem State.releaseRef_rck (s : State) (b : BlockNo) : (s.releaseRef b).rck = s.rck := rfl
@[simp] theorem State.releaseRef_sif (s : State) (b : BlockNo) : (s.releaseRef b).sif = s.sif := rfl
@[simp] theorem State.releaseRef_psq (s : State) (b : BlockNo) : (s.releaseRef b).psq = s.psq := rfl
@[simp] theorem State.releaseRef_slots (s : State) (b : BlockNo) : (s.releaseRef b).slots = s.slots := rfl
@[simp] theorem State.releaseRef_qac (s : State) (b : BlockNo) : (s.releaseRef b).qac = s.qac := rfl
@[simp] theorem State.releaseRef_tau (s : State) (b : BlockNo) : (s.releaseRef b).tau = s.tau := rfl
@[simp] theorem State.releaseRef_pcu (s : State) (b : BlockNo) : (s.releaseRef b).pcu = s.pcu := rfl
@[simp] theorem State.releaseRef_ttb (s : State) (b : BlockNo) : (s.releaseRef b).ttb = s.ttb := rfl
@[simp] theorem State.releaseRef_fetch (s : State) (b : BlockNo) : (s.releaseRef b).fetch = s.fetch := rfl
@[simp] theorem State.releaseRef_mail (s : State) (b : BlockNo) : (s.releaseRef b).mail = s.mail := rfl
@[simp] theorem State.releaseRef_ticks (s : State) (b : BlockNo) : (s.releaseRef b).ticks = s.ticks := rfl
@[simp] theorem State.releaseRef_resetDue (s : State) (b : BlockNo) : (s.releaseRef b).resetDue = s.resetDue := rfl
@[simp] theorem State.releaseRef_freeSeed (s : State) (b : BlockNo) : (s.releaseRef b).freeSeed = s.freeSeed := rfl
@[simp] theorem State.releaseRef_pending (s : State) (b : BlockNo) : (s.releaseRef b).pending = s.pending := rfl

@[simp] theorem State.setNote_testLink (s : State) (i : Slot) (n : Option (Nat × Nat)) : (s.setNote i n).testLink = s.testLink := rfl
@[simp] theorem State.setNote_handlerLink (s : State) (i : Slot) (n : Option (Nat × Nat)) : (s.setNote i n).handlerLink = s.handlerLink := rfl
@[simp] theorem State.setNote_lineLink (s : State) (i : Slot) (n : Option (Nat × Nat)) : (s.setNote i n).lineLink = s.lineLink := rfl
@[simp] theorem State.setNote_rck (s : State) (i : Slot) (n : Option (Nat × Nat)) : (s.setNote i n).rck = s.rck := rfl
@[simp] theorem State.setNote_sif (s : State) (i : Slot) (n : Option (Nat × Nat)) : (s.setNote i n).sif = s.sif := rfl
@[simp] theorem State.setNote_psq (s : State) (i : Slot) (n : Option (Nat × Nat)) : (s.setNote i n).psq = s.psq := rfl
@[simp] theorem State.setNote_slots (s : State) (i : Slot) (n : Option (Nat × Nat)) : (s.setNote i n).slots = s.slots := rfl
@[simp] theorem State.setNote_qac (s : State) (i : Slot) (n : Option (Nat × Nat)) : (s.setNote i n).qac = s.qac := rfl
@[simp] theorem State.setNote_tau (s : State) (i : Slot) (n : Option (Nat × Nat)) : (s.setNote i n).tau = s.tau := rfl
@[simp] theorem State.setNote_rst (s : State) (i : Slot) (n : Option (Nat × Nat)) : (s.setNote i n).rst = s.rst := rfl
@[simp] theorem State.setNote_pcu (s : State) (i : Slot) (n : Option (Nat × Nat)) : (s.setNote i n).pcu = s.pcu := rfl
@[simp] theorem State.setNote_fetch (s : State) (i : Slot) (n : Option (Nat × Nat)) : (s.setNote i n).fetch = s.fetch := rfl
@[simp] theorem State.setNote_mail (s : State) (i : Slot) (n : Option (Nat × Nat)) : (s.setNote i n).mail = s.mail := rfl
@[simp] theorem State.setNote_ticks (s : State) (i : Slot) (n : Option (Nat × Nat)) : (s.setNote i n).ticks = s.ticks := rfl
@[simp] theorem State.setNote_resetDue (s : State) (i : Slot) (n : Option (Nat × Nat)) : (s.setNote i n).resetDue = s.resetDue := rfl
@[simp] theorem State.setNote_freeSeed (s : State) (i : Slot) (n : Option (Nat × Nat)) : (s.setNote i n).freeSeed = s.freeSeed := rfl
@[simp] theorem State.setNote_pending (s : State) (i : Slot) (n : Option (Nat × Nat)) : (s.setNote i n).pending = s.pending := rfl

@[simp] theorem State.setTote_testLink (s : State) (t : ToteNo) (r : Tote) : (s.setTote t r).testLink = s.testLink := rfl
@[simp] theorem State.setTote_handlerLink (s : State) (t : ToteNo) (r : Tote) : (s.setTote t r).handlerLink = s.handlerLink := rfl
@[simp] theorem State.setTote_lineLink (s : State) (t : ToteNo) (r : Tote) : (s.setTote t r).lineLink = s.lineLink := rfl
@[simp] theorem State.setTote_rck (s : State) (t : ToteNo) (r : Tote) : (s.setTote t r).rck = s.rck := rfl
@[simp] theorem State.setTote_sif (s : State) (t : ToteNo) (r : Tote) : (s.setTote t r).sif = s.sif := rfl
@[simp] theorem State.setTote_psq (s : State) (t : ToteNo) (r : Tote) : (s.setTote t r).psq = s.psq := rfl
@[simp] theorem State.setTote_slots (s : State) (t : ToteNo) (r : Tote) : (s.setTote t r).slots = s.slots := rfl
@[simp] theorem State.setTote_qac (s : State) (t : ToteNo) (r : Tote) : (s.setTote t r).qac = s.qac := rfl
@[simp] theorem State.setTote_tau (s : State) (t : ToteNo) (r : Tote) : (s.setTote t r).tau = s.tau := rfl
@[simp] theorem State.setTote_rst (s : State) (t : ToteNo) (r : Tote) : (s.setTote t r).rst = s.rst := rfl
@[simp] theorem State.setTote_pcu (s : State) (t : ToteNo) (r : Tote) : (s.setTote t r).pcu = s.pcu := rfl
@[simp] theorem State.setTote_fetch (s : State) (t : ToteNo) (r : Tote) : (s.setTote t r).fetch = s.fetch := rfl
@[simp] theorem State.setTote_mail (s : State) (t : ToteNo) (r : Tote) : (s.setTote t r).mail = s.mail := rfl
@[simp] theorem State.setTote_ticks (s : State) (t : ToteNo) (r : Tote) : (s.setTote t r).ticks = s.ticks := rfl
@[simp] theorem State.setTote_resetDue (s : State) (t : ToteNo) (r : Tote) : (s.setTote t r).resetDue = s.resetDue := rfl
@[simp] theorem State.setTote_freeSeed (s : State) (t : ToteNo) (r : Tote) : (s.setTote t r).freeSeed = s.freeSeed := rfl
@[simp] theorem State.setTote_pending (s : State) (t : ToteNo) (r : Tote) : (s.setTote t r).pending = s.pending := rfl

@[simp] theorem State.setQueue_testLink (s : State) (g : Bin) (q : List Slot) : (s.setQueue g q).testLink = s.testLink := rfl
@[simp] theorem State.setQueue_handlerLink (s : State) (g : Bin) (q : List Slot) : (s.setQueue g q).handlerLink = s.handlerLink := rfl
@[simp] theorem State.setQueue_lineLink (s : State) (g : Bin) (q : List Slot) : (s.setQueue g q).lineLink = s.lineLink := rfl
@[simp] theorem State.setQueue_rck (s : State) (g : Bin) (q : List Slot) : (s.setQueue g q).rck = s.rck := rfl
@[simp] theorem State.setQueue_sif (s : State) (g : Bin) (q : List Slot) : (s.setQueue g q).sif = s.sif := rfl
@[simp] theorem State.setQueue_psq (s : State) (g : Bin) (q : List Slot) : (s.setQueue g q).psq = s.psq := rfl
@[simp] theorem State.setQueue_slots (s : State) (g : Bin) (q : List Slot) : (s.setQueue g q).slots = s.slots := rfl
@[simp] theorem State.setQueue_qac (s : State) (g : Bin) (q : List Slot) : (s.setQueue g q).qac = s.qac := rfl
@[simp] theorem State.setQueue_tau (s : State) (g : Bin) (q : List Slot) : (s.setQueue g q).tau = s.tau := rfl
@[simp] theorem State.setQueue_rst (s : State) (g : Bin) (q : List Slot) : (s.setQueue g q).rst = s.rst := rfl
@[simp] theorem State.setQueue_pcu (s : State) (g : Bin) (q : List Slot) : (s.setQueue g q).pcu = s.pcu := rfl
@[simp] theorem State.setQueue_fetch (s : State) (g : Bin) (q : List Slot) : (s.setQueue g q).fetch = s.fetch := rfl
@[simp] theorem State.setQueue_mail (s : State) (g : Bin) (q : List Slot) : (s.setQueue g q).mail = s.mail := rfl
@[simp] theorem State.setQueue_ticks (s : State) (g : Bin) (q : List Slot) : (s.setQueue g q).ticks = s.ticks := rfl
@[simp] theorem State.setQueue_resetDue (s : State) (g : Bin) (q : List Slot) : (s.setQueue g q).resetDue = s.resetDue := rfl
@[simp] theorem State.setQueue_freeSeed (s : State) (g : Bin) (q : List Slot) : (s.setQueue g q).freeSeed = s.freeSeed := rfl
@[simp] theorem State.setQueue_pending (s : State) (g : Bin) (q : List Slot) : (s.setQueue g q).pending = s.pending := rfl

@[simp] theorem State.setAccess_testLink (s : State) (r : Fin 2) (a : AccessRecord) : (s.setAccess r a).testLink = s.testLink := rfl
@[simp] theorem State.setAccess_handlerLink (s : State) (r : Fin 2) (a : AccessRecord) : (s.setAccess r a).handlerLink = s.handlerLink := rfl
@[simp] theorem State.setAccess_lineLink (s : State) (r : Fin 2) (a : AccessRecord) : (s.setAccess r a).lineLink = s.lineLink := rfl
@[simp] theorem State.setAccess_rck (s : State) (r : Fin 2) (a : AccessRecord) : (s.setAccess r a).rck = s.rck := rfl
@[simp] theorem State.setAccess_sif (s : State) (r : Fin 2) (a : AccessRecord) : (s.setAccess r a).sif = s.sif := rfl
@[simp] theorem State.setAccess_psq (s : State) (r : Fin 2) (a : AccessRecord) : (s.setAccess r a).psq = s.psq := rfl
@[simp] theorem State.setAccess_slots (s : State) (r : Fin 2) (a : AccessRecord) : (s.setAccess r a).slots = s.slots := rfl
@[simp] theorem State.setAccess_tau (s : State) (r : Fin 2) (a : AccessRecord) : (s.setAccess r a).tau = s.tau := rfl
@[simp] theorem State.setAccess_rst (s : State) (r : Fin 2) (a : AccessRecord) : (s.setAccess r a).rst = s.rst := rfl
@[simp] theorem State.setAccess_pcu (s : State) (r : Fin 2) (a : AccessRecord) : (s.setAccess r a).pcu = s.pcu := rfl
@[simp] theorem State.setAccess_ttb (s : State) (r : Fin 2) (a : AccessRecord) : (s.setAccess r a).ttb = s.ttb := rfl
@[simp] theorem State.setAccess_fetch (s : State) (r : Fin 2) (a : AccessRecord) : (s.setAccess r a).fetch = s.fetch := rfl
@[simp] theorem State.setAccess_mail (s : State) (r : Fin 2) (a : AccessRecord) : (s.setAccess r a).mail = s.mail := rfl
@[simp] theorem State.setAccess_ticks (s : State) (r : Fin 2) (a : AccessRecord) : (s.setAccess r a).ticks = s.ticks := rfl
@[simp] theorem State.setAccess_resetDue (s : State) (r : Fin 2) (a : AccessRecord) : (s.setAccess r a).resetDue = s.resetDue := rfl
@[simp] theorem State.setAccess_freeSeed (s : State) (r : Fin 2) (a : AccessRecord) : (s.setAccess r a).freeSeed = s.freeSeed := rfl
@[simp] theorem State.setAccess_pending (s : State) (r : Fin 2) (a : AccessRecord) : (s.setAccess r a).pending = s.pending := rfl

@[simp] theorem State.raiseHolds_testLink (s : State) (z : List Slot) : (s.raiseHolds z).testLink = s.testLink := by simp only [State.raiseHolds]
@[simp] theorem State.raiseHolds_handlerLink (s : State) (z : List Slot) : (s.raiseHolds z).handlerLink = s.handlerLink := by simp only [State.raiseHolds]
@[simp] theorem State.raiseHolds_lineLink (s : State) (z : List Slot) : (s.raiseHolds z).lineLink = s.lineLink := by simp only [State.raiseHolds]
@[simp] theorem State.raiseHolds_rck (s : State) (z : List Slot) : (s.raiseHolds z).rck = s.rck := by simp only [State.raiseHolds]
@[simp] theorem State.raiseHolds_sif (s : State) (z : List Slot) : (s.raiseHolds z).sif = s.sif := by simp only [State.raiseHolds]
@[simp] theorem State.raiseHolds_psq (s : State) (z : List Slot) : (s.raiseHolds z).psq = s.psq := by simp only [State.raiseHolds]
@[simp] theorem State.raiseHolds_slots (s : State) (z : List Slot) : (s.raiseHolds z).slots = s.slots := by simp only [State.raiseHolds]
@[simp] theorem State.raiseHolds_tau (s : State) (z : List Slot) : (s.raiseHolds z).tau = s.tau := by simp only [State.raiseHolds]
@[simp] theorem State.raiseHolds_rst (s : State) (z : List Slot) : (s.raiseHolds z).rst = s.rst := by simp only [State.raiseHolds]
@[simp] theorem State.raiseHolds_pcu (s : State) (z : List Slot) : (s.raiseHolds z).pcu = s.pcu := by simp only [State.raiseHolds]
@[simp] theorem State.raiseHolds_ttb (s : State) (z : List Slot) : (s.raiseHolds z).ttb = s.ttb := by simp only [State.raiseHolds]
@[simp] theorem State.raiseHolds_fetch (s : State) (z : List Slot) : (s.raiseHolds z).fetch = s.fetch := by simp only [State.raiseHolds]
@[simp] theorem State.raiseHolds_mail (s : State) (z : List Slot) : (s.raiseHolds z).mail = s.mail := by simp only [State.raiseHolds]
@[simp] theorem State.raiseHolds_ticks (s : State) (z : List Slot) : (s.raiseHolds z).ticks = s.ticks := by simp only [State.raiseHolds]
@[simp] theorem State.raiseHolds_resetDue (s : State) (z : List Slot) : (s.raiseHolds z).resetDue = s.resetDue := by simp only [State.raiseHolds]
@[simp] theorem State.raiseHolds_freeSeed (s : State) (z : List Slot) : (s.raiseHolds z).freeSeed = s.freeSeed := by simp only [State.raiseHolds]
@[simp] theorem State.raiseHolds_pending (s : State) (z : List Slot) : (s.raiseHolds z).pending = s.pending := by simp only [State.raiseHolds]

@[simp] theorem State.lowerHolds_testLink (s : State) (z : List Slot) : (s.lowerHolds z).testLink = s.testLink := by simp only [State.lowerHolds]
@[simp] theorem State.lowerHolds_handlerLink (s : State) (z : List Slot) : (s.lowerHolds z).handlerLink = s.handlerLink := by simp only [State.lowerHolds]
@[simp] theorem State.lowerHolds_lineLink (s : State) (z : List Slot) : (s.lowerHolds z).lineLink = s.lineLink := by simp only [State.lowerHolds]
@[simp] theorem State.lowerHolds_rck (s : State) (z : List Slot) : (s.lowerHolds z).rck = s.rck := by simp only [State.lowerHolds]
@[simp] theorem State.lowerHolds_sif (s : State) (z : List Slot) : (s.lowerHolds z).sif = s.sif := by simp only [State.lowerHolds]
@[simp] theorem State.lowerHolds_psq (s : State) (z : List Slot) : (s.lowerHolds z).psq = s.psq := by simp only [State.lowerHolds]
@[simp] theorem State.lowerHolds_slots (s : State) (z : List Slot) : (s.lowerHolds z).slots = s.slots := by simp only [State.lowerHolds]
@[simp] theorem State.lowerHolds_tau (s : State) (z : List Slot) : (s.lowerHolds z).tau = s.tau := by simp only [State.lowerHolds]
@[simp] theorem State.lowerHolds_rst (s : State) (z : List Slot) : (s.lowerHolds z).rst = s.rst := by simp only [State.lowerHolds]
@[simp] theorem State.lowerHolds_pcu (s : State) (z : List Slot) : (s.lowerHolds z).pcu = s.pcu := by simp only [State.lowerHolds]
@[simp] theorem State.lowerHolds_ttb (s : State) (z : List Slot) : (s.lowerHolds z).ttb = s.ttb := by simp only [State.lowerHolds]
@[simp] theorem State.lowerHolds_fetch (s : State) (z : List Slot) : (s.lowerHolds z).fetch = s.fetch := by simp only [State.lowerHolds]
@[simp] theorem State.lowerHolds_ticks (s : State) (z : List Slot) : (s.lowerHolds z).ticks = s.ticks := by simp only [State.lowerHolds]
@[simp] theorem State.lowerHolds_resetDue (s : State) (z : List Slot) : (s.lowerHolds z).resetDue = s.resetDue := by simp only [State.lowerHolds]
@[simp] theorem State.lowerHolds_freeSeed (s : State) (z : List Slot) : (s.lowerHolds z).freeSeed = s.freeSeed := by simp only [State.lowerHolds]
@[simp] theorem State.lowerHolds_pending (s : State) (z : List Slot) : (s.lowerHolds z).pending = s.pending := by simp only [State.lowerHolds]

@[simp] theorem State.askZone_testLink (s : State) (z : List Slot) : (s.askZone z).testLink = s.testLink := by simp only [State.askZone]
@[simp] theorem State.askZone_handlerLink (s : State) (z : List Slot) : (s.askZone z).handlerLink = s.handlerLink := by simp only [State.askZone]
@[simp] theorem State.askZone_lineLink (s : State) (z : List Slot) : (s.askZone z).lineLink = s.lineLink := by simp only [State.askZone]
@[simp] theorem State.askZone_rck (s : State) (z : List Slot) : (s.askZone z).rck = s.rck := by simp only [State.askZone]
@[simp] theorem State.askZone_sif (s : State) (z : List Slot) : (s.askZone z).sif = s.sif := by simp only [State.askZone]
@[simp] theorem State.askZone_psq (s : State) (z : List Slot) : (s.askZone z).psq = s.psq := by simp only [State.askZone]
@[simp] theorem State.askZone_slots (s : State) (z : List Slot) : (s.askZone z).slots = s.slots := by simp only [State.askZone]
@[simp] theorem State.askZone_qac (s : State) (z : List Slot) : (s.askZone z).qac = s.qac := by simp only [State.askZone]
@[simp] theorem State.askZone_tau (s : State) (z : List Slot) : (s.askZone z).tau = s.tau := by simp only [State.askZone]
@[simp] theorem State.askZone_rst (s : State) (z : List Slot) : (s.askZone z).rst = s.rst := by simp only [State.askZone]
@[simp] theorem State.askZone_pcu (s : State) (z : List Slot) : (s.askZone z).pcu = s.pcu := by simp only [State.askZone]
@[simp] theorem State.askZone_ttb (s : State) (z : List Slot) : (s.askZone z).ttb = s.ttb := by simp only [State.askZone]
@[simp] theorem State.askZone_fetch (s : State) (z : List Slot) : (s.askZone z).fetch = s.fetch := by simp only [State.askZone]
@[simp] theorem State.askZone_ticks (s : State) (z : List Slot) : (s.askZone z).ticks = s.ticks := by simp only [State.askZone]
@[simp] theorem State.askZone_resetDue (s : State) (z : List Slot) : (s.askZone z).resetDue = s.resetDue := by simp only [State.askZone]
@[simp] theorem State.askZone_freeSeed (s : State) (z : List Slot) : (s.askZone z).freeSeed = s.freeSeed := by simp only [State.askZone]
@[simp] theorem State.askZone_pending (s : State) (z : List Slot) : (s.askZone z).pending = s.pending := by simp only [State.askZone]

@[simp] theorem State.disturbZone_testLink (s : State) (z : List Slot) : (s.disturbZone z).testLink = s.testLink := by simp only [State.disturbZone]
@[simp] theorem State.disturbZone_handlerLink (s : State) (z : List Slot) : (s.disturbZone z).handlerLink = s.handlerLink := by simp only [State.disturbZone]
@[simp] theorem State.disturbZone_lineLink (s : State) (z : List Slot) : (s.disturbZone z).lineLink = s.lineLink := by simp only [State.disturbZone]
@[simp] theorem State.disturbZone_rck (s : State) (z : List Slot) : (s.disturbZone z).rck = s.rck := by simp only [State.disturbZone]
@[simp] theorem State.disturbZone_sif (s : State) (z : List Slot) : (s.disturbZone z).sif = s.sif := by simp only [State.disturbZone]
@[simp] theorem State.disturbZone_psq (s : State) (z : List Slot) : (s.disturbZone z).psq = s.psq := by simp only [State.disturbZone]
@[simp] theorem State.disturbZone_slots (s : State) (z : List Slot) : (s.disturbZone z).slots = s.slots := by simp only [State.disturbZone]
@[simp] theorem State.disturbZone_qac (s : State) (z : List Slot) : (s.disturbZone z).qac = s.qac := by simp only [State.disturbZone]
@[simp] theorem State.disturbZone_tau (s : State) (z : List Slot) : (s.disturbZone z).tau = s.tau := by simp only [State.disturbZone]
@[simp] theorem State.disturbZone_rst (s : State) (z : List Slot) : (s.disturbZone z).rst = s.rst := by simp only [State.disturbZone]
@[simp] theorem State.disturbZone_pcu (s : State) (z : List Slot) : (s.disturbZone z).pcu = s.pcu := by simp only [State.disturbZone]
@[simp] theorem State.disturbZone_ttb (s : State) (z : List Slot) : (s.disturbZone z).ttb = s.ttb := by simp only [State.disturbZone]
@[simp] theorem State.disturbZone_fetch (s : State) (z : List Slot) : (s.disturbZone z).fetch = s.fetch := by simp only [State.disturbZone]
@[simp] theorem State.disturbZone_ticks (s : State) (z : List Slot) : (s.disturbZone z).ticks = s.ticks := by simp only [State.disturbZone]
@[simp] theorem State.disturbZone_resetDue (s : State) (z : List Slot) : (s.disturbZone z).resetDue = s.resetDue := by simp only [State.disturbZone]
@[simp] theorem State.disturbZone_freeSeed (s : State) (z : List Slot) : (s.disturbZone z).freeSeed = s.freeSeed := by simp only [State.disturbZone]
@[simp] theorem State.disturbZone_pending (s : State) (z : List Slot) : (s.disturbZone z).pending = s.pending := by simp only [State.disturbZone]

@[simp] theorem State.setTemp_testLink (s : State) (i : Slot) (c : TempContext) : (s.setTemp i c).testLink = s.testLink := rfl
@[simp] theorem State.setTemp_handlerLink (s : State) (i : Slot) (c : TempContext) : (s.setTemp i c).handlerLink = s.handlerLink := rfl
@[simp] theorem State.setTemp_lineLink (s : State) (i : Slot) (c : TempContext) : (s.setTemp i c).lineLink = s.lineLink := rfl
@[simp] theorem State.setTemp_rck (s : State) (i : Slot) (c : TempContext) : (s.setTemp i c).rck = s.rck := rfl
@[simp] theorem State.setTemp_sif (s : State) (i : Slot) (c : TempContext) : (s.setTemp i c).sif = s.sif := rfl
@[simp] theorem State.setTemp_psq (s : State) (i : Slot) (c : TempContext) : (s.setTemp i c).psq = s.psq := rfl
@[simp] theorem State.setTemp_slots (s : State) (i : Slot) (c : TempContext) : (s.setTemp i c).slots = s.slots := rfl
@[simp] theorem State.setTemp_qac (s : State) (i : Slot) (c : TempContext) : (s.setTemp i c).qac = s.qac := rfl
@[simp] theorem State.setTemp_rst (s : State) (i : Slot) (c : TempContext) : (s.setTemp i c).rst = s.rst := rfl
@[simp] theorem State.setTemp_pcu (s : State) (i : Slot) (c : TempContext) : (s.setTemp i c).pcu = s.pcu := rfl
@[simp] theorem State.setTemp_ttb (s : State) (i : Slot) (c : TempContext) : (s.setTemp i c).ttb = s.ttb := rfl
@[simp] theorem State.setTemp_fetch (s : State) (i : Slot) (c : TempContext) : (s.setTemp i c).fetch = s.fetch := rfl
@[simp] theorem State.setTemp_mail (s : State) (i : Slot) (c : TempContext) : (s.setTemp i c).mail = s.mail := rfl
@[simp] theorem State.setTemp_ticks (s : State) (i : Slot) (c : TempContext) : (s.setTemp i c).ticks = s.ticks := rfl
@[simp] theorem State.setTemp_resetDue (s : State) (i : Slot) (c : TempContext) : (s.setTemp i c).resetDue = s.resetDue := rfl
@[simp] theorem State.setTemp_freeSeed (s : State) (i : Slot) (c : TempContext) : (s.setTemp i c).freeSeed = s.freeSeed := rfl
@[simp] theorem State.setTemp_pending (s : State) (i : Slot) (c : TempContext) : (s.setTemp i c).pending = s.pending := rfl

@[simp] theorem State.setRunning_testLink (s : State) (o : Option Running) : (s.setRunning o).testLink = s.testLink := rfl
@[simp] theorem State.setRunning_handlerLink (s : State) (o : Option Running) : (s.setRunning o).handlerLink = s.handlerLink := rfl
@[simp] theorem State.setRunning_lineLink (s : State) (o : Option Running) : (s.setRunning o).lineLink = s.lineLink := rfl
@[simp] theorem State.setRunning_rck (s : State) (o : Option Running) : (s.setRunning o).rck = s.rck := rfl
@[simp] theorem State.setRunning_sif (s : State) (o : Option Running) : (s.setRunning o).sif = s.sif := rfl
@[simp] theorem State.setRunning_psq (s : State) (o : Option Running) : (s.setRunning o).psq = s.psq := rfl
@[simp] theorem State.setRunning_slots (s : State) (o : Option Running) : (s.setRunning o).slots = s.slots := rfl
@[simp] theorem State.setRunning_qac (s : State) (o : Option Running) : (s.setRunning o).qac = s.qac := rfl
@[simp] theorem State.setRunning_tau (s : State) (o : Option Running) : (s.setRunning o).tau = s.tau := rfl
@[simp] theorem State.setRunning_pcu (s : State) (o : Option Running) : (s.setRunning o).pcu = s.pcu := rfl
@[simp] theorem State.setRunning_ttb (s : State) (o : Option Running) : (s.setRunning o).ttb = s.ttb := rfl
@[simp] theorem State.setRunning_fetch (s : State) (o : Option Running) : (s.setRunning o).fetch = s.fetch := rfl
@[simp] theorem State.setRunning_mail (s : State) (o : Option Running) : (s.setRunning o).mail = s.mail := rfl
@[simp] theorem State.setRunning_ticks (s : State) (o : Option Running) : (s.setRunning o).ticks = s.ticks := rfl
@[simp] theorem State.setRunning_resetDue (s : State) (o : Option Running) : (s.setRunning o).resetDue = s.resetDue := rfl
@[simp] theorem State.setRunning_freeSeed (s : State) (o : Option Running) : (s.setRunning o).freeSeed = s.freeSeed := rfl
@[simp] theorem State.setRunning_pending (s : State) (o : Option Running) : (s.setRunning o).pending = s.pending := rfl

@[simp] theorem State.recordError_testLink (s : State) (k : StoreErrorKind) (b : BlockNo) : (s.recordError k b).testLink = s.testLink := rfl
@[simp] theorem State.recordError_handlerLink (s : State) (k : StoreErrorKind) (b : BlockNo) : (s.recordError k b).handlerLink = s.handlerLink := rfl
@[simp] theorem State.recordError_lineLink (s : State) (k : StoreErrorKind) (b : BlockNo) : (s.recordError k b).lineLink = s.lineLink := rfl
@[simp] theorem State.recordError_rck (s : State) (k : StoreErrorKind) (b : BlockNo) : (s.recordError k b).rck = s.rck := rfl
@[simp] theorem State.recordError_sif (s : State) (k : StoreErrorKind) (b : BlockNo) : (s.recordError k b).sif = s.sif := rfl
@[simp] theorem State.recordError_psq (s : State) (k : StoreErrorKind) (b : BlockNo) : (s.recordError k b).psq = s.psq := rfl
@[simp] theorem State.recordError_slots (s : State) (k : StoreErrorKind) (b : BlockNo) : (s.recordError k b).slots = s.slots := rfl
@[simp] theorem State.recordError_qac (s : State) (k : StoreErrorKind) (b : BlockNo) : (s.recordError k b).qac = s.qac := rfl
@[simp] theorem State.recordError_tau (s : State) (k : StoreErrorKind) (b : BlockNo) : (s.recordError k b).tau = s.tau := rfl
@[simp] theorem State.recordError_pcu (s : State) (k : StoreErrorKind) (b : BlockNo) : (s.recordError k b).pcu = s.pcu := rfl
@[simp] theorem State.recordError_ttb (s : State) (k : StoreErrorKind) (b : BlockNo) : (s.recordError k b).ttb = s.ttb := rfl
@[simp] theorem State.recordError_fetch (s : State) (k : StoreErrorKind) (b : BlockNo) : (s.recordError k b).fetch = s.fetch := rfl
@[simp] theorem State.recordError_mail (s : State) (k : StoreErrorKind) (b : BlockNo) : (s.recordError k b).mail = s.mail := rfl
@[simp] theorem State.recordError_ticks (s : State) (k : StoreErrorKind) (b : BlockNo) : (s.recordError k b).ticks = s.ticks := rfl
@[simp] theorem State.recordError_resetDue (s : State) (k : StoreErrorKind) (b : BlockNo) : (s.recordError k b).resetDue = s.resetDue := rfl
@[simp] theorem State.recordError_freeSeed (s : State) (k : StoreErrorKind) (b : BlockNo) : (s.recordError k b).freeSeed = s.freeSeed := rfl
@[simp] theorem State.recordError_pending (s : State) (k : StoreErrorKind) (b : BlockNo) : (s.recordError k b).pending = s.pending := rfl

@[simp] theorem State.endFetch_testLink (s : State) : s.endFetch.testLink = s.testLink := rfl
@[simp] theorem State.endFetch_handlerLink (s : State) : s.endFetch.handlerLink = s.handlerLink := rfl
@[simp] theorem State.endFetch_lineLink (s : State) : s.endFetch.lineLink = s.lineLink := rfl
@[simp] theorem State.endFetch_rck (s : State) : s.endFetch.rck = s.rck := rfl
@[simp] theorem State.endFetch_sif (s : State) : s.endFetch.sif = s.sif := rfl
@[simp] theorem State.endFetch_psq (s : State) : s.endFetch.psq = s.psq := rfl
@[simp] theorem State.endFetch_slots (s : State) : s.endFetch.slots = s.slots := rfl
@[simp] theorem State.endFetch_qac (s : State) : s.endFetch.qac = s.qac := rfl
@[simp] theorem State.endFetch_tau (s : State) : s.endFetch.tau = s.tau := rfl
@[simp] theorem State.endFetch_rst (s : State) : s.endFetch.rst = s.rst := rfl
@[simp] theorem State.endFetch_pcu (s : State) : s.endFetch.pcu = s.pcu := rfl
@[simp] theorem State.endFetch_ttb (s : State) : s.endFetch.ttb = s.ttb := rfl
@[simp] theorem State.endFetch_mail (s : State) : s.endFetch.mail = s.mail := rfl
@[simp] theorem State.endFetch_ticks (s : State) : s.endFetch.ticks = s.ticks := rfl
@[simp] theorem State.endFetch_resetDue (s : State) : s.endFetch.resetDue = s.resetDue := rfl
@[simp] theorem State.endFetch_freeSeed (s : State) : s.endFetch.freeSeed = s.freeSeed := rfl
@[simp] theorem State.endFetch_pending (s : State) : s.endFetch.pending = s.pending := rfl

@[simp] theorem State.sampleInputs_testLink (s : State) (p q : BitVec 24) : (s.sampleInputs p q).testLink = s.testLink := by simp only [State.sampleInputs]
@[simp] theorem State.sampleInputs_handlerLink (s : State) (p q : BitVec 24) : (s.sampleInputs p q).handlerLink = s.handlerLink := by simp only [State.sampleInputs]
@[simp] theorem State.sampleInputs_lineLink (s : State) (p q : BitVec 24) : (s.sampleInputs p q).lineLink = s.lineLink := by simp only [State.sampleInputs]
@[simp] theorem State.sampleInputs_rck (s : State) (p q : BitVec 24) : (s.sampleInputs p q).rck = s.rck := by simp only [State.sampleInputs]
@[simp] theorem State.sampleInputs_psq (s : State) (p q : BitVec 24) : (s.sampleInputs p q).psq = s.psq := by simp only [State.sampleInputs]
@[simp] theorem State.sampleInputs_slots (s : State) (p q : BitVec 24) : (s.sampleInputs p q).slots = s.slots := by simp only [State.sampleInputs]
@[simp] theorem State.sampleInputs_qac (s : State) (p q : BitVec 24) : (s.sampleInputs p q).qac = s.qac := by simp only [State.sampleInputs]
@[simp] theorem State.sampleInputs_tau (s : State) (p q : BitVec 24) : (s.sampleInputs p q).tau = s.tau := by simp only [State.sampleInputs]
@[simp] theorem State.sampleInputs_rst (s : State) (p q : BitVec 24) : (s.sampleInputs p q).rst = s.rst := by simp only [State.sampleInputs]
@[simp] theorem State.sampleInputs_pcu (s : State) (p q : BitVec 24) : (s.sampleInputs p q).pcu = s.pcu := by simp only [State.sampleInputs]
@[simp] theorem State.sampleInputs_ttb (s : State) (p q : BitVec 24) : (s.sampleInputs p q).ttb = s.ttb := by simp only [State.sampleInputs]
@[simp] theorem State.sampleInputs_fetch (s : State) (p q : BitVec 24) : (s.sampleInputs p q).fetch = s.fetch := by simp only [State.sampleInputs]
@[simp] theorem State.sampleInputs_ticks (s : State) (p q : BitVec 24) : (s.sampleInputs p q).ticks = s.ticks := by simp only [State.sampleInputs]
@[simp] theorem State.sampleInputs_resetDue (s : State) (p q : BitVec 24) : (s.sampleInputs p q).resetDue = s.resetDue := by simp only [State.sampleInputs]
@[simp] theorem State.sampleInputs_freeSeed (s : State) (p q : BitVec 24) : (s.sampleInputs p q).freeSeed = s.freeSeed := by simp only [State.sampleInputs]
@[simp] theorem State.sampleInputs_pending (s : State) (p q : BitVec 24) : (s.sampleInputs p q).pending = s.pending := by simp only [State.sampleInputs]

@[simp] theorem State.setReceiver_rck (s : State) (l : Link) (r : Receiver) : (s.setReceiver l r).rck = s.rck := by cases l <;> rfl
@[simp] theorem State.setReceiver_sif (s : State) (l : Link) (r : Receiver) : (s.setReceiver l r).sif = s.sif := by cases l <;> rfl
@[simp] theorem State.setReceiver_psq (s : State) (l : Link) (r : Receiver) : (s.setReceiver l r).psq = s.psq := by cases l <;> rfl
@[simp] theorem State.setReceiver_slots (s : State) (l : Link) (r : Receiver) : (s.setReceiver l r).slots = s.slots := by cases l <;> rfl
@[simp] theorem State.setReceiver_qac (s : State) (l : Link) (r : Receiver) : (s.setReceiver l r).qac = s.qac := by cases l <;> rfl
@[simp] theorem State.setReceiver_tau (s : State) (l : Link) (r : Receiver) : (s.setReceiver l r).tau = s.tau := by cases l <;> rfl
@[simp] theorem State.setReceiver_rst (s : State) (l : Link) (r : Receiver) : (s.setReceiver l r).rst = s.rst := by cases l <;> rfl
@[simp] theorem State.setReceiver_pcu (s : State) (l : Link) (r : Receiver) : (s.setReceiver l r).pcu = s.pcu := by cases l <;> rfl
@[simp] theorem State.setReceiver_ttb (s : State) (l : Link) (r : Receiver) : (s.setReceiver l r).ttb = s.ttb := by cases l <;> rfl
@[simp] theorem State.setReceiver_fetch (s : State) (l : Link) (r : Receiver) : (s.setReceiver l r).fetch = s.fetch := by cases l <;> rfl
@[simp] theorem State.setReceiver_mail (s : State) (l : Link) (r : Receiver) : (s.setReceiver l r).mail = s.mail := by cases l <;> rfl
@[simp] theorem State.setReceiver_ticks (s : State) (l : Link) (r : Receiver) : (s.setReceiver l r).ticks = s.ticks := by cases l <;> rfl
@[simp] theorem State.setReceiver_resetDue (s : State) (l : Link) (r : Receiver) : (s.setReceiver l r).resetDue = s.resetDue := by cases l <;> rfl
@[simp] theorem State.setReceiver_freeSeed (s : State) (l : Link) (r : Receiver) : (s.setReceiver l r).freeSeed = s.freeSeed := by cases l <;> rfl
@[simp] theorem State.setReceiver_pending (s : State) (l : Link) (r : Receiver) : (s.setReceiver l r).pending = s.pending := by cases l <;> rfl

@[simp] theorem State.goOn_rck (s : State) (l : Link) (r : Receiver) : (s.goOn l r).rck = s.rck := by cases l <;> rfl
@[simp] theorem State.goOn_sif (s : State) (l : Link) (r : Receiver) : (s.goOn l r).sif = s.sif := by cases l <;> rfl
@[simp] theorem State.goOn_psq (s : State) (l : Link) (r : Receiver) : (s.goOn l r).psq = s.psq := by cases l <;> rfl
@[simp] theorem State.goOn_slots (s : State) (l : Link) (r : Receiver) : (s.goOn l r).slots = s.slots := by cases l <;> rfl
@[simp] theorem State.goOn_qac (s : State) (l : Link) (r : Receiver) : (s.goOn l r).qac = s.qac := by cases l <;> rfl
@[simp] theorem State.goOn_tau (s : State) (l : Link) (r : Receiver) : (s.goOn l r).tau = s.tau := by cases l <;> rfl
@[simp] theorem State.goOn_rst (s : State) (l : Link) (r : Receiver) : (s.goOn l r).rst = s.rst := by cases l <;> rfl
@[simp] theorem State.goOn_pcu (s : State) (l : Link) (r : Receiver) : (s.goOn l r).pcu = s.pcu := by cases l <;> rfl
@[simp] theorem State.goOn_ttb (s : State) (l : Link) (r : Receiver) : (s.goOn l r).ttb = s.ttb := by cases l <;> rfl
@[simp] theorem State.goOn_fetch (s : State) (l : Link) (r : Receiver) : (s.goOn l r).fetch = s.fetch := by cases l <;> rfl
@[simp] theorem State.goOn_mail (s : State) (l : Link) (r : Receiver) : (s.goOn l r).mail = s.mail := by cases l <;> rfl
@[simp] theorem State.goOn_ticks (s : State) (l : Link) (r : Receiver) : (s.goOn l r).ticks = s.ticks := by cases l <;> rfl
@[simp] theorem State.goOn_resetDue (s : State) (l : Link) (r : Receiver) : (s.goOn l r).resetDue = s.resetDue := by cases l <;> rfl
@[simp] theorem State.goOn_freeSeed (s : State) (l : Link) (r : Receiver) : (s.goOn l r).freeSeed = s.freeSeed := by cases l <;> rfl
@[simp] theorem State.goOn_pending (s : State) (l : Link) (r : Receiver) : (s.goOn l r).pending = s.pending := by cases l <;> rfl

end Sys2Proof.Machine
end

