-- ==== Sys2Proof/Laws/Frames.lean ====
section
/-! SUPPORT. What each shared operation leaves alone: one frame lemma for each, its parts simp rules. -/

namespace Sys2Proof.Machine

@[simp] theorem State.releaseRefOf_frame (s : State) (r : SlotRecord) :
    (s.releaseRefOf r).testLink = s.testLink ∧ (s.releaseRefOf r).handlerLink = s.handlerLink ∧
    (s.releaseRefOf r).lineLink = s.lineLink ∧ (s.releaseRefOf r).rck = s.rck ∧ (s.releaseRefOf r).sif = s.sif ∧
    (s.releaseRefOf r).psq = s.psq ∧ (s.releaseRefOf r).slots = s.slots ∧ (s.releaseRefOf r).qac = s.qac ∧
    (s.releaseRefOf r).tau = s.tau ∧ (s.releaseRefOf r).pcu = s.pcu ∧ (s.releaseRefOf r).ttb = s.ttb ∧
    (s.releaseRefOf r).fetch = s.fetch ∧ (s.releaseRefOf r).mail = s.mail ∧ (s.releaseRefOf r).ticks = s.ticks ∧
    (s.releaseRefOf r).resetDue = s.resetDue ∧ (s.releaseRefOf r).freeSeed = s.freeSeed ∧
    (s.releaseRefOf r).pending = s.pending := by unfold State.releaseRefOf; split <;> simp

@[simp] theorem State.refuseTaken_frame (s : State) (l : Link) (n : Nat) (k : RespCode) :
    (s.refuseTaken l n k).rck = s.rck ∧ (s.refuseTaken l n k).sif = s.sif ∧ (s.refuseTaken l n k).psq = s.psq ∧
    (s.refuseTaken l n k).slots = s.slots ∧ (s.refuseTaken l n k).qac = s.qac ∧ (s.refuseTaken l n k).tau = s.tau ∧
    (s.refuseTaken l n k).pcu = s.pcu ∧ (s.refuseTaken l n k).ttb = s.ttb ∧ (s.refuseTaken l n k).fetch = s.fetch ∧
    (s.refuseTaken l n k).mail = s.mail ∧ (s.refuseTaken l n k).ticks = s.ticks ∧
    (s.refuseTaken l n k).resetDue = s.resetDue ∧ (s.refuseTaken l n k).freeSeed = s.freeSeed ∧
    (s.refuseTaken l n k).pending = s.pending := by unfold State.refuseTaken; split <;> simp

@[simp] theorem State.settle_frame (s : State) (l : Link) (c : Instr) (r : Reply) :
    (s.settle l c r).rck = s.rck ∧ (s.settle l c r).sif = s.sif ∧ (s.settle l c r).psq = s.psq ∧
    (s.settle l c r).slots = s.slots ∧ (s.settle l c r).qac = s.qac ∧ (s.settle l c r).tau = s.tau ∧
    (s.settle l c r).rst = s.rst ∧ (s.settle l c r).pcu = s.pcu ∧ (s.settle l c r).ttb = s.ttb ∧
    (s.settle l c r).fetch = s.fetch ∧ (s.settle l c r).mail = s.mail ∧ (s.settle l c r).ticks = s.ticks ∧
    (s.settle l c r).resetDue = s.resetDue ∧ (s.settle l c r).freeSeed = s.freeSeed ∧
    (s.settle l c r).pending = s.pending := by cases r <;> simp [State.settle]

@[simp] theorem State.freeAccess_frame (s : State) (r : Fin 2) :
    (s.freeAccess r).testLink = s.testLink ∧ (s.freeAccess r).handlerLink = s.handlerLink ∧
    (s.freeAccess r).lineLink = s.lineLink ∧ (s.freeAccess r).rck = s.rck ∧ (s.freeAccess r).sif = s.sif ∧
    (s.freeAccess r).psq = s.psq ∧ (s.freeAccess r).slots = s.slots ∧ (s.freeAccess r).tau = s.tau ∧
    (s.freeAccess r).rst = s.rst ∧ (s.freeAccess r).pcu = s.pcu ∧ (s.freeAccess r).ttb = s.ttb ∧
    (s.freeAccess r).fetch = s.fetch ∧ (s.freeAccess r).ticks = s.ticks ∧ (s.freeAccess r).resetDue = s.resetDue ∧
    (s.freeAccess r).freeSeed = s.freeSeed ∧ (s.freeAccess r).pending = s.pending := by unfold State.freeAccess; split <;> simp

@[simp] theorem State.endPending_frame (s : State) (r : Fin 2) (u : AccessUse) :
    (s.endPending r u).rck = s.rck ∧ (s.endPending r u).sif = s.sif ∧ (s.endPending r u).psq = s.psq ∧
    (s.endPending r u).slots = s.slots ∧ (s.endPending r u).tau = s.tau ∧ (s.endPending r u).rst = s.rst ∧
    (s.endPending r u).pcu = s.pcu ∧ (s.endPending r u).ttb = s.ttb ∧ (s.endPending r u).fetch = s.fetch ∧
    (s.endPending r u).ticks = s.ticks ∧ (s.endPending r u).resetDue = s.resetDue ∧
    (s.endPending r u).freeSeed = s.freeSeed ∧ (s.endPending r u).pending = s.pending := by simp [State.endPending]

@[simp] theorem State.grant_frame (s : State) (r : Fin 2) (u : AccessUse) :
    (s.grant r u).rck = s.rck ∧ (s.grant r u).sif = s.sif ∧ (s.grant r u).psq = s.psq ∧
    (s.grant r u).slots = s.slots ∧ (s.grant r u).tau = s.tau ∧ (s.grant r u).rst = s.rst ∧
    (s.grant r u).pcu = s.pcu ∧ (s.grant r u).ttb = s.ttb ∧ (s.grant r u).fetch = s.fetch ∧
    (s.grant r u).mail = s.mail ∧ (s.grant r u).ticks = s.ticks ∧ (s.grant r u).resetDue = s.resetDue ∧
    (s.grant r u).freeSeed = s.freeSeed ∧ (s.grant r u).pending = s.pending := by simp [State.grant]

@[simp] theorem State.evaluate_frame (s : State) (r : Fin 2) :
    (s.evaluate r).rck = s.rck ∧ (s.evaluate r).sif = s.sif ∧ (s.evaluate r).psq = s.psq ∧
    (s.evaluate r).slots = s.slots ∧ (s.evaluate r).tau = s.tau ∧ (s.evaluate r).rst = s.rst ∧
    (s.evaluate r).pcu = s.pcu ∧ (s.evaluate r).ttb = s.ttb ∧ (s.evaluate r).fetch = s.fetch ∧
    (s.evaluate r).ticks = s.ticks ∧ (s.evaluate r).resetDue = s.resetDue ∧ (s.evaluate r).freeSeed = s.freeSeed ∧ (s.evaluate r).pending = s.pending := by unfold State.evaluate; split <;> (try split) <;> (try split) <;> simp

@[simp] theorem State.checkTarget_frame (s : State) (r : Fin 2) (i : Slot) :
    (s.checkTarget r i).rck = s.rck ∧ (s.checkTarget r i).sif = s.sif ∧ (s.checkTarget r i).psq = s.psq ∧
    (s.checkTarget r i).slots = s.slots ∧ (s.checkTarget r i).tau = s.tau ∧ (s.checkTarget r i).rst = s.rst ∧
    (s.checkTarget r i).pcu = s.pcu ∧ (s.checkTarget r i).ttb = s.ttb ∧ (s.checkTarget r i).fetch = s.fetch ∧
    (s.checkTarget r i).ticks = s.ticks ∧ (s.checkTarget r i).resetDue = s.resetDue ∧
    (s.checkTarget r i).freeSeed = s.freeSeed ∧ (s.checkTarget r i).pending = s.pending := by unfold State.checkTarget; split <;> (try split) <;> simp

@[simp] theorem State.reportAt_frame (s : State) (r : Fin 2) (i : Slot) :
    (s.reportAt r i).rck = s.rck ∧ (s.reportAt r i).sif = s.sif ∧ (s.reportAt r i).psq = s.psq ∧
    (s.reportAt r i).slots = s.slots ∧ (s.reportAt r i).tau = s.tau ∧ (s.reportAt r i).rst = s.rst ∧
    (s.reportAt r i).pcu = s.pcu ∧ (s.reportAt r i).ttb = s.ttb ∧ (s.reportAt r i).fetch = s.fetch ∧
    (s.reportAt r i).ticks = s.ticks ∧ (s.reportAt r i).resetDue = s.resetDue ∧
    (s.reportAt r i).freeSeed = s.freeSeed ∧ (s.reportAt r i).pending = s.pending := by unfold State.reportAt; simp only []; split <;> (try split) <;> simp

@[simp] theorem State.takeAccess_frame (s : State) (r : Fin 2) (i : Slot) (a : Action) :
    (s.takeAccess r i a).rck = s.rck ∧ (s.takeAccess r i a).sif = s.sif ∧ (s.takeAccess r i a).psq = s.psq ∧
    (s.takeAccess r i a).slots = s.slots ∧ (s.takeAccess r i a).tau = s.tau ∧ (s.takeAccess r i a).rst = s.rst ∧
    (s.takeAccess r i a).pcu = s.pcu ∧ (s.takeAccess r i a).ttb = s.ttb ∧ (s.takeAccess r i a).fetch = s.fetch ∧
    (s.takeAccess r i a).ticks = s.ticks ∧ (s.takeAccess r i a).resetDue = s.resetDue ∧
    (s.takeAccess r i a).freeSeed = s.freeSeed ∧ (s.takeAccess r i a).pending = s.pending := by unfold State.takeAccess; simp

@[simp] theorem State.takeOutcome_frame (s : State) (i : Slot) (o : PowerOutcome) :
    (s.takeOutcome i o).testLink = s.testLink ∧ (s.takeOutcome i o).handlerLink = s.handlerLink ∧
    (s.takeOutcome i o).lineLink = s.lineLink ∧ (s.takeOutcome i o).rck = s.rck ∧ (s.takeOutcome i o).sif = s.sif ∧
    (s.takeOutcome i o).psq = s.psq ∧ (s.takeOutcome i o).qac = s.qac ∧ (s.takeOutcome i o).tau = s.tau ∧
    (s.takeOutcome i o).rst = s.rst ∧ (s.takeOutcome i o).pcu = s.pcu ∧ (s.takeOutcome i o).ttb = s.ttb ∧
    (s.takeOutcome i o).fetch = s.fetch ∧ (s.takeOutcome i o).ticks = s.ticks ∧
    (s.takeOutcome i o).resetDue = s.resetDue ∧ (s.takeOutcome i o).freeSeed = s.freeSeed ∧
    (s.takeOutcome i o).pending = s.pending := by unfold State.takeOutcome; simp only []; split <;> (try split) <;> simp

@[simp] theorem State.answerPowerOff_frame (s : State) (q : Bool) :
    (s.answerPowerOff q).rck = s.rck ∧ (s.answerPowerOff q).sif = s.sif ∧ (s.answerPowerOff q).psq = s.psq ∧
    (s.answerPowerOff q).slots = s.slots ∧ (s.answerPowerOff q).qac = s.qac ∧ (s.answerPowerOff q).tau = s.tau ∧
    (s.answerPowerOff q).rst = s.rst ∧ (s.answerPowerOff q).pcu = s.pcu ∧ (s.answerPowerOff q).ttb = s.ttb ∧
    (s.answerPowerOff q).fetch = s.fetch ∧ (s.answerPowerOff q).mail = s.mail ∧
    (s.answerPowerOff q).ticks = s.ticks ∧ (s.answerPowerOff q).resetDue = s.resetDue ∧
    (s.answerPowerOff q).freeSeed = s.freeSeed ∧ (s.answerPowerOff q).pending = s.pending := by unfold State.answerPowerOff; split <;> simp

@[simp] theorem State.serveExpiry_frame (s : State) (i : Slot) (d : Deadline) :
    (s.serveExpiry i d).rck = s.rck ∧ (s.serveExpiry i d).sif = s.sif ∧ (s.serveExpiry i d).psq = s.psq ∧
    (s.serveExpiry i d).qac = s.qac ∧ (s.serveExpiry i d).tau = s.tau ∧ (s.serveExpiry i d).rst = s.rst ∧
    (s.serveExpiry i d).pcu = s.pcu ∧ (s.serveExpiry i d).ttb = s.ttb ∧ (s.serveExpiry i d).fetch = s.fetch ∧
    (s.serveExpiry i d).ticks = s.ticks ∧ (s.serveExpiry i d).resetDue = s.resetDue ∧
    (s.serveExpiry i d).freeSeed = s.freeSeed ∧ (s.serveExpiry i d).pending = s.pending := by unfold State.serveExpiry; simp only []; split <;> simp

@[simp] theorem State.stall_frame (s : State) (g : Bin) (i : Slot) :
    (s.stall g i).rck = s.rck ∧ (s.stall g i).sif = s.sif ∧ (s.stall g i).psq = s.psq ∧ (s.stall g i).qac = s.qac ∧
    (s.stall g i).tau = s.tau ∧ (s.stall g i).rst = s.rst ∧ (s.stall g i).pcu = s.pcu ∧
    (s.stall g i).fetch = s.fetch ∧ (s.stall g i).ticks = s.ticks ∧ (s.stall g i).resetDue = s.resetDue ∧
    (s.stall g i).freeSeed = s.freeSeed ∧ (s.stall g i).pending = s.pending := by unfold State.stall; simp

@[simp] theorem State.leaveQueue_frame (s : State) (i : Slot) :
    (s.leaveQueue i).testLink = s.testLink ∧ (s.leaveQueue i).handlerLink = s.handlerLink ∧
    (s.leaveQueue i).lineLink = s.lineLink ∧ (s.leaveQueue i).rck = s.rck ∧ (s.leaveQueue i).sif = s.sif ∧
    (s.leaveQueue i).psq = s.psq ∧ (s.leaveQueue i).slots = s.slots ∧ (s.leaveQueue i).qac = s.qac ∧
    (s.leaveQueue i).tau = s.tau ∧ (s.leaveQueue i).rst = s.rst ∧ (s.leaveQueue i).pcu = s.pcu ∧
    (s.leaveQueue i).fetch = s.fetch ∧ (s.leaveQueue i).mail = s.mail ∧ (s.leaveQueue i).ticks = s.ticks ∧
    (s.leaveQueue i).resetDue = s.resetDue ∧ (s.leaveQueue i).freeSeed = s.freeSeed ∧
    (s.leaveQueue i).pending = s.pending := by unfold State.leaveQueue; split <;> simp

@[simp] theorem State.fillReservation_frame (s : State) (i : Slot) :
    (s.fillReservation i).rck = s.rck ∧ (s.fillReservation i).sif = s.sif ∧ (s.fillReservation i).psq = s.psq ∧
    (s.fillReservation i).slots = s.slots ∧ (s.fillReservation i).qac = s.qac ∧ (s.fillReservation i).tau = s.tau ∧
    (s.fillReservation i).rst = s.rst ∧ (s.fillReservation i).pcu = s.pcu ∧ (s.fillReservation i).fetch = s.fetch ∧
    (s.fillReservation i).mail = s.mail ∧ (s.fillReservation i).ticks = s.ticks ∧
    (s.fillReservation i).resetDue = s.resetDue ∧ (s.fillReservation i).freeSeed = s.freeSeed ∧
    (s.fillReservation i).pending = s.pending := by unfold State.fillReservation; split <;> (try (simp only []; split)) <;> simp

@[simp] theorem State.clearSlot_frame (s : State) (i : Slot) :
    (s.clearSlot i).testLink = s.testLink ∧ (s.clearSlot i).handlerLink = s.handlerLink ∧
    (s.clearSlot i).lineLink = s.lineLink ∧ (s.clearSlot i).sif = s.sif ∧ (s.clearSlot i).psq = s.psq ∧
    (s.clearSlot i).qac = s.qac ∧ (s.clearSlot i).tau = s.tau ∧ (s.clearSlot i).pcu = s.pcu ∧
    (s.clearSlot i).fetch = s.fetch ∧ (s.clearSlot i).ticks = s.ticks ∧ (s.clearSlot i).resetDue = s.resetDue ∧
    (s.clearSlot i).freeSeed = s.freeSeed ∧ (s.clearSlot i).pending = s.pending := by unfold State.clearSlot; simp

@[simp] theorem State.loadPlaced_frame (s : State) (i : Slot) :
    (s.loadPlaced i).rck = s.rck ∧ (s.loadPlaced i).sif = s.sif ∧ (s.loadPlaced i).psq = s.psq ∧
    (s.loadPlaced i).qac = s.qac ∧ (s.loadPlaced i).tau = s.tau ∧ (s.loadPlaced i).rst = s.rst ∧
    (s.loadPlaced i).pcu = s.pcu ∧ (s.loadPlaced i).ttb = s.ttb ∧ (s.loadPlaced i).fetch = s.fetch ∧
    (s.loadPlaced i).ticks = s.ticks ∧ (s.loadPlaced i).resetDue = s.resetDue ∧
    (s.loadPlaced i).freeSeed = s.freeSeed ∧ (s.loadPlaced i).pending = s.pending := by unfold State.loadPlaced; split <;> simp

@[simp] theorem State.unloadPlaced_frame (s : State) (i : Slot) :
    (s.unloadPlaced i).sif = s.sif ∧ (s.unloadPlaced i).psq = s.psq ∧ (s.unloadPlaced i).qac = s.qac ∧
    (s.unloadPlaced i).tau = s.tau ∧ (s.unloadPlaced i).pcu = s.pcu ∧ (s.unloadPlaced i).fetch = s.fetch ∧
    (s.unloadPlaced i).ticks = s.ticks ∧ (s.unloadPlaced i).resetDue = s.resetDue ∧
    (s.unloadPlaced i).freeSeed = s.freeSeed ∧ (s.unloadPlaced i).pending = s.pending := by unfold State.unloadPlaced; split <;> simp

@[simp] theorem State.applyAsk_frame (s : State) (i : Slot) :
    (s.applyAsk i).rck = s.rck ∧ (s.applyAsk i).sif = s.sif ∧ (s.applyAsk i).psq = s.psq ∧
    (s.applyAsk i).qac = s.qac ∧ (s.applyAsk i).tau = s.tau ∧ (s.applyAsk i).rst = s.rst ∧
    (s.applyAsk i).pcu = s.pcu ∧ (s.applyAsk i).ttb = s.ttb ∧ (s.applyAsk i).fetch = s.fetch ∧
    (s.applyAsk i).ticks = s.ticks ∧ (s.applyAsk i).resetDue = s.resetDue ∧ (s.applyAsk i).freeSeed = s.freeSeed ∧
    (s.applyAsk i).pending = s.pending := by unfold State.applyAsk; split <;> simp

@[simp] theorem State.applyRelease_frame (s : State) (i : Slot) :
    (s.applyRelease i).rck = s.rck ∧ (s.applyRelease i).sif = s.sif ∧ (s.applyRelease i).psq = s.psq ∧
    (s.applyRelease i).qac = s.qac ∧ (s.applyRelease i).tau = s.tau ∧ (s.applyRelease i).rst = s.rst ∧
    (s.applyRelease i).pcu = s.pcu ∧ (s.applyRelease i).ttb = s.ttb ∧ (s.applyRelease i).fetch = s.fetch ∧
    (s.applyRelease i).ticks = s.ticks ∧ (s.applyRelease i).resetDue = s.resetDue ∧
    (s.applyRelease i).freeSeed = s.freeSeed ∧ (s.applyRelease i).pending = s.pending := by unfold State.applyRelease; split <;> simp

@[simp] theorem State.applyDisturbance_frame (s : State) (i : Slot) :
    (s.applyDisturbance i).rck = s.rck ∧ (s.applyDisturbance i).sif = s.sif ∧ (s.applyDisturbance i).psq = s.psq ∧
    (s.applyDisturbance i).qac = s.qac ∧ (s.applyDisturbance i).tau = s.tau ∧ (s.applyDisturbance i).rst = s.rst ∧
    (s.applyDisturbance i).pcu = s.pcu ∧ (s.applyDisturbance i).ttb = s.ttb ∧
    (s.applyDisturbance i).fetch = s.fetch ∧ (s.applyDisturbance i).ticks = s.ticks ∧
    (s.applyDisturbance i).resetDue = s.resetDue ∧ (s.applyDisturbance i).freeSeed = s.freeSeed ∧
    (s.applyDisturbance i).pending = s.pending := by unfold State.applyDisturbance; split <;> simp

@[simp] theorem State.classChange_frame (s : State) (i : Slot) (c : InputChange) :
    (s.classChange i c).testLink = s.testLink ∧ (s.classChange i c).handlerLink = s.handlerLink ∧
    (s.classChange i c).lineLink = s.lineLink ∧ (s.classChange i c).rck = s.rck ∧ (s.classChange i c).sif = s.sif ∧
    (s.classChange i c).psq = s.psq ∧ (s.classChange i c).slots = s.slots ∧ (s.classChange i c).qac = s.qac ∧
    (s.classChange i c).tau = s.tau ∧ (s.classChange i c).rst = s.rst ∧ (s.classChange i c).pcu = s.pcu ∧
    (s.classChange i c).ttb = s.ttb ∧ (s.classChange i c).fetch = s.fetch ∧ (s.classChange i c).ticks = s.ticks ∧
    (s.classChange i c).resetDue = s.resetDue ∧ (s.classChange i c).freeSeed = s.freeSeed ∧
    (s.classChange i c).pending = s.pending := by unfold State.classChange; split <;> simp

@[simp] theorem State.readingFails_frame (s : State) (i : Slot) :
    (s.readingFails i).rck = s.rck ∧ (s.readingFails i).sif = s.sif ∧ (s.readingFails i).psq = s.psq ∧
    (s.readingFails i).slots = s.slots ∧ (s.readingFails i).qac = s.qac ∧ (s.readingFails i).rst = s.rst ∧
    (s.readingFails i).pcu = s.pcu ∧ (s.readingFails i).ttb = s.ttb ∧ (s.readingFails i).fetch = s.fetch ∧
    (s.readingFails i).mail = s.mail ∧ (s.readingFails i).ticks = s.ticks ∧
    (s.readingFails i).resetDue = s.resetDue ∧ (s.readingFails i).freeSeed = s.freeSeed ∧
    (s.readingFails i).pending = s.pending := by unfold State.readingFails; simp only []; split <;> simp

@[simp] theorem State.readingAccepted_frame (s : State) (i : Slot) (z : Int) :
    (s.readingAccepted i z).testLink = s.testLink ∧ (s.readingAccepted i z).handlerLink = s.handlerLink ∧
    (s.readingAccepted i z).lineLink = s.lineLink ∧ (s.readingAccepted i z).rck = s.rck ∧
    (s.readingAccepted i z).sif = s.sif ∧ (s.readingAccepted i z).psq = s.psq ∧
    (s.readingAccepted i z).slots = s.slots ∧ (s.readingAccepted i z).qac = s.qac ∧
    (s.readingAccepted i z).rst = s.rst ∧ (s.readingAccepted i z).pcu = s.pcu ∧
    (s.readingAccepted i z).ttb = s.ttb ∧ (s.readingAccepted i z).fetch = s.fetch ∧
    (s.readingAccepted i z).ticks = s.ticks ∧ (s.readingAccepted i z).resetDue = s.resetDue ∧
    (s.readingAccepted i z).freeSeed = s.freeSeed ∧ (s.readingAccepted i z).pending = s.pending := by unfold State.readingAccepted; simp only []; split <;> simp

@[simp] theorem State.takeCaptures_frame (s : State) (i : Slot) :
    (s.takeCaptures i).testLink = s.testLink ∧ (s.takeCaptures i).handlerLink = s.handlerLink ∧
    (s.takeCaptures i).lineLink = s.lineLink ∧ (s.takeCaptures i).rck = s.rck ∧ (s.takeCaptures i).sif = s.sif ∧
    (s.takeCaptures i).psq = s.psq ∧ (s.takeCaptures i).slots = s.slots ∧ (s.takeCaptures i).qac = s.qac ∧
    (s.takeCaptures i).rst = s.rst ∧ (s.takeCaptures i).pcu = s.pcu ∧ (s.takeCaptures i).ttb = s.ttb ∧
    (s.takeCaptures i).fetch = s.fetch ∧ (s.takeCaptures i).ticks = s.ticks ∧
    (s.takeCaptures i).resetDue = s.resetDue ∧ (s.takeCaptures i).freeSeed = s.freeSeed ∧ (s.takeCaptures i).pending = s.pending := by unfold State.takeCaptures; split <;> simp

@[simp] theorem State.serveReading_frame (s : State) (i : Slot) (r : Option SensorReply) :
    (s.serveReading i r).rck = s.rck ∧ (s.serveReading i r).sif = s.sif ∧ (s.serveReading i r).psq = s.psq ∧
    (s.serveReading i r).slots = s.slots ∧ (s.serveReading i r).qac = s.qac ∧ (s.serveReading i r).rst = s.rst ∧
    (s.serveReading i r).pcu = s.pcu ∧ (s.serveReading i r).ttb = s.ttb ∧ (s.serveReading i r).fetch = s.fetch ∧
    (s.serveReading i r).ticks = s.ticks ∧ (s.serveReading i r).resetDue = s.resetDue ∧
    (s.serveReading i r).freeSeed = s.freeSeed ∧ (s.serveReading i r).pending = s.pending := by unfold State.serveReading; split <;> (try split) <;> simp

@[simp] theorem State.addCredit_frame (s : State) (i : Slot) (n : Nat) :
    (s.addCredit i n).rck = s.rck ∧ (s.addCredit i n).sif = s.sif ∧ (s.addCredit i n).psq = s.psq ∧
    (s.addCredit i n).qac = s.qac ∧ (s.addCredit i n).tau = s.tau ∧ (s.addCredit i n).rst = s.rst ∧
    (s.addCredit i n).pcu = s.pcu ∧ (s.addCredit i n).ttb = s.ttb ∧ (s.addCredit i n).fetch = s.fetch ∧
    (s.addCredit i n).ticks = s.ticks ∧ (s.addCredit i n).resetDue = s.resetDue ∧
    (s.addCredit i n).freeSeed = s.freeSeed ∧ (s.addCredit i n).pending = s.pending := by unfold State.addCredit; split <;> (try (simp only []; split)) <;> simp

@[simp] theorem State.serveCredit_frame (s : State) (i : Slot) :
    (s.serveCredit i).rck = s.rck ∧ (s.serveCredit i).sif = s.sif ∧ (s.serveCredit i).psq = s.psq ∧
    (s.serveCredit i).qac = s.qac ∧ (s.serveCredit i).tau = s.tau ∧ (s.serveCredit i).rst = s.rst ∧
    (s.serveCredit i).pcu = s.pcu ∧ (s.serveCredit i).ttb = s.ttb ∧ (s.serveCredit i).fetch = s.fetch ∧
    (s.serveCredit i).ticks = s.ticks ∧ (s.serveCredit i).resetDue = s.resetDue ∧
    (s.serveCredit i).freeSeed = s.freeSeed ∧ (s.serveCredit i).pending = s.pending := by unfold State.serveCredit; split <;> simp

@[simp] theorem State.invalidate_frame (s : State) (b : BlockNo) :
    (s.invalidate b).testLink = s.testLink ∧ (s.invalidate b).handlerLink = s.handlerLink ∧
    (s.invalidate b).lineLink = s.lineLink ∧ (s.invalidate b).rck = s.rck ∧ (s.invalidate b).sif = s.sif ∧
    (s.invalidate b).psq = s.psq ∧ (s.invalidate b).slots = s.slots ∧ (s.invalidate b).qac = s.qac ∧
    (s.invalidate b).tau = s.tau ∧ (s.invalidate b).ttb = s.ttb ∧ (s.invalidate b).fetch = s.fetch ∧
    (s.invalidate b).mail = s.mail ∧ (s.invalidate b).ticks = s.ticks ∧ (s.invalidate b).resetDue = s.resetDue ∧
    (s.invalidate b).freeSeed = s.freeSeed ∧ (s.invalidate b).pending = s.pending := by unfold State.invalidate; simp only []; split <;> simp

@[simp] theorem State.countRef_frame (s : State) (r : FetchResult) :
    (s.countRef r).testLink = s.testLink ∧ (s.countRef r).handlerLink = s.handlerLink ∧
    (s.countRef r).lineLink = s.lineLink ∧ (s.countRef r).rck = s.rck ∧ (s.countRef r).sif = s.sif ∧
    (s.countRef r).psq = s.psq ∧ (s.countRef r).slots = s.slots ∧ (s.countRef r).qac = s.qac ∧
    (s.countRef r).tau = s.tau ∧ (s.countRef r).pcu = s.pcu ∧ (s.countRef r).ttb = s.ttb ∧
    (s.countRef r).fetch = s.fetch ∧ (s.countRef r).mail = s.mail ∧ (s.countRef r).ticks = s.ticks ∧
    (s.countRef r).resetDue = s.resetDue ∧ (s.countRef r).freeSeed = s.freeSeed ∧ (s.countRef r).pending = s.pending := by unfold State.countRef; split <;> simp

@[simp] theorem State.answerFetch_frame (s : State) (f : Fetch) :
    (s.answerFetch f).testLink = s.testLink ∧ (s.answerFetch f).handlerLink = s.handlerLink ∧
    (s.answerFetch f).lineLink = s.lineLink ∧ (s.answerFetch f).rck = s.rck ∧ (s.answerFetch f).sif = s.sif ∧
    (s.answerFetch f).psq = s.psq ∧ (s.answerFetch f).slots = s.slots ∧ (s.answerFetch f).qac = s.qac ∧
    (s.answerFetch f).tau = s.tau ∧ (s.answerFetch f).pcu = s.pcu ∧ (s.answerFetch f).ttb = s.ttb ∧
    (s.answerFetch f).mail = s.mail ∧ (s.answerFetch f).ticks = s.ticks ∧ (s.answerFetch f).resetDue = s.resetDue ∧
    (s.answerFetch f).freeSeed = s.freeSeed ∧ (s.answerFetch f).pending = s.pending := by unfold State.answerFetch; simp

@[simp] theorem State.answerWaiting_frame (s : State) :
    s.answerWaiting.testLink = s.testLink ∧ s.answerWaiting.handlerLink = s.handlerLink ∧
    s.answerWaiting.lineLink = s.lineLink ∧ s.answerWaiting.rck = s.rck ∧ s.answerWaiting.sif = s.sif ∧
    s.answerWaiting.psq = s.psq ∧ s.answerWaiting.slots = s.slots ∧ s.answerWaiting.qac = s.qac ∧
    s.answerWaiting.tau = s.tau ∧ s.answerWaiting.pcu = s.pcu ∧ s.answerWaiting.ttb = s.ttb ∧
    s.answerWaiting.mail = s.mail ∧ s.answerWaiting.ticks = s.ticks ∧ s.answerWaiting.resetDue = s.resetDue ∧
    s.answerWaiting.freeSeed = s.freeSeed ∧ s.answerWaiting.pending = s.pending := by unfold State.answerWaiting; split <;> simp

@[simp] theorem State.fetchReaches_frame (s : State) (f : Fetch) :
    (s.fetchReaches f).testLink = s.testLink ∧ (s.fetchReaches f).handlerLink = s.handlerLink ∧
    (s.fetchReaches f).lineLink = s.lineLink ∧ (s.fetchReaches f).rck = s.rck ∧ (s.fetchReaches f).sif = s.sif ∧
    (s.fetchReaches f).psq = s.psq ∧ (s.fetchReaches f).slots = s.slots ∧ (s.fetchReaches f).qac = s.qac ∧
    (s.fetchReaches f).tau = s.tau ∧ (s.fetchReaches f).pcu = s.pcu ∧ (s.fetchReaches f).ttb = s.ttb ∧
    (s.fetchReaches f).mail = s.mail ∧ (s.fetchReaches f).ticks = s.ticks ∧
    (s.fetchReaches f).resetDue = s.resetDue ∧ (s.fetchReaches f).freeSeed = s.freeSeed ∧
    (s.fetchReaches f).pending = s.pending := by unfold State.fetchReaches; split <;> (try split) <;> simp

@[simp] theorem State.endRunning_frame (s : State) (o : Running) :
    (s.endRunning o).testLink = s.testLink ∧ (s.endRunning o).handlerLink = s.handlerLink ∧
    (s.endRunning o).lineLink = s.lineLink ∧ (s.endRunning o).rck = s.rck ∧ (s.endRunning o).sif = s.sif ∧
    (s.endRunning o).psq = s.psq ∧ (s.endRunning o).slots = s.slots ∧ (s.endRunning o).qac = s.qac ∧
    (s.endRunning o).tau = s.tau ∧ (s.endRunning o).pcu = s.pcu ∧ (s.endRunning o).ttb = s.ttb ∧
    (s.endRunning o).mail = s.mail ∧ (s.endRunning o).ticks = s.ticks ∧ (s.endRunning o).resetDue = s.resetDue ∧
    (s.endRunning o).freeSeed = s.freeSeed ∧ (s.endRunning o).pending = s.pending := by unfold State.endRunning; simp only []; split <;> simp

@[simp] theorem State.programEnds_frame (s : State) (o : Running) (b : BlockNo) (c : Recipe) (q : Bool) :
    (s.programEnds o b c q).rck = s.rck ∧ (s.programEnds o b c q).sif = s.sif ∧
    (s.programEnds o b c q).psq = s.psq ∧ (s.programEnds o b c q).slots = s.slots ∧
    (s.programEnds o b c q).qac = s.qac ∧ (s.programEnds o b c q).tau = s.tau ∧
    (s.programEnds o b c q).pcu = s.pcu ∧ (s.programEnds o b c q).ttb = s.ttb ∧
    (s.programEnds o b c q).mail = s.mail ∧ (s.programEnds o b c q).ticks = s.ticks ∧
    (s.programEnds o b c q).resetDue = s.resetDue ∧ (s.programEnds o b c q).freeSeed = s.freeSeed ∧
    (s.programEnds o b c q).pending = s.pending := by unfold State.programEnds; simp only []; split <;> simp

@[simp] theorem State.eraseEnds_frame (s : State) (o : Running) (b : BlockNo) (q : Bool) :
    (s.eraseEnds o b q).rck = s.rck ∧ (s.eraseEnds o b q).sif = s.sif ∧ (s.eraseEnds o b q).psq = s.psq ∧
    (s.eraseEnds o b q).slots = s.slots ∧ (s.eraseEnds o b q).qac = s.qac ∧ (s.eraseEnds o b q).tau = s.tau ∧
    (s.eraseEnds o b q).pcu = s.pcu ∧ (s.eraseEnds o b q).ttb = s.ttb ∧ (s.eraseEnds o b q).mail = s.mail ∧
    (s.eraseEnds o b q).ticks = s.ticks ∧ (s.eraseEnds o b q).resetDue = s.resetDue ∧
    (s.eraseEnds o b q).freeSeed = s.freeSeed ∧ (s.eraseEnds o b q).pending = s.pending := by unfold State.eraseEnds; simp only []; split <;> simp

@[simp] theorem State.blankCheckEnds_frame (s : State) (o : Running) (b : BlockNo) (p : BlockState) (q : Bool) :
    (s.blankCheckEnds o b p q).rck = s.rck ∧ (s.blankCheckEnds o b p q).sif = s.sif ∧
    (s.blankCheckEnds o b p q).psq = s.psq ∧ (s.blankCheckEnds o b p q).slots = s.slots ∧
    (s.blankCheckEnds o b p q).qac = s.qac ∧ (s.blankCheckEnds o b p q).tau = s.tau ∧
    (s.blankCheckEnds o b p q).pcu = s.pcu ∧ (s.blankCheckEnds o b p q).ttb = s.ttb ∧
    (s.blankCheckEnds o b p q).mail = s.mail ∧ (s.blankCheckEnds o b p q).ticks = s.ticks ∧
    (s.blankCheckEnds o b p q).resetDue = s.resetDue ∧ (s.blankCheckEnds o b p q).freeSeed = s.freeSeed ∧
    (s.blankCheckEnds o b p q).pending = s.pending := by unfold State.blankCheckEnds; simp only []; split <;> simp

@[simp] theorem State.lockEnds_frame (s : State) (o : Running) (b : BlockNo) :
    (s.lockEnds o b).rck = s.rck ∧ (s.lockEnds o b).sif = s.sif ∧ (s.lockEnds o b).psq = s.psq ∧
    (s.lockEnds o b).slots = s.slots ∧ (s.lockEnds o b).qac = s.qac ∧ (s.lockEnds o b).tau = s.tau ∧
    (s.lockEnds o b).pcu = s.pcu ∧ (s.lockEnds o b).ttb = s.ttb ∧ (s.lockEnds o b).mail = s.mail ∧
    (s.lockEnds o b).ticks = s.ticks ∧ (s.lockEnds o b).resetDue = s.resetDue ∧
    (s.lockEnds o b).freeSeed = s.freeSeed ∧ (s.lockEnds o b).pending = s.pending := by unfold State.lockEnds; simp

@[simp] theorem State.clearBlockEnds_frame (s : State) (o : Running) (b : BlockNo) (p q : Bool) :
    (s.clearBlockEnds o b p q).rck = s.rck ∧ (s.clearBlockEnds o b p q).sif = s.sif ∧
    (s.clearBlockEnds o b p q).psq = s.psq ∧ (s.clearBlockEnds o b p q).slots = s.slots ∧
    (s.clearBlockEnds o b p q).qac = s.qac ∧ (s.clearBlockEnds o b p q).tau = s.tau ∧
    (s.clearBlockEnds o b p q).pcu = s.pcu ∧ (s.clearBlockEnds o b p q).ttb = s.ttb ∧
    (s.clearBlockEnds o b p q).mail = s.mail ∧ (s.clearBlockEnds o b p q).ticks = s.ticks ∧
    (s.clearBlockEnds o b p q).resetDue = s.resetDue ∧ (s.clearBlockEnds o b p q).freeSeed = s.freeSeed ∧
    (s.clearBlockEnds o b p q).pending = s.pending := by unfold State.clearBlockEnds; simp only []; split <;> (split <;> simp)

@[simp] theorem State.stopRunning_frame (s : State) :
    s.stopRunning.rck = s.rck ∧ s.stopRunning.sif = s.sif ∧ s.stopRunning.psq = s.psq ∧
    s.stopRunning.slots = s.slots ∧ s.stopRunning.qac = s.qac ∧ s.stopRunning.tau = s.tau ∧
    s.stopRunning.pcu = s.pcu ∧ s.stopRunning.ttb = s.ttb ∧ s.stopRunning.mail = s.mail ∧
    s.stopRunning.ticks = s.ticks ∧ s.stopRunning.resetDue = s.resetDue ∧ s.stopRunning.freeSeed = s.freeSeed ∧
    s.stopRunning.pending = s.pending := by unfold State.stopRunning; split <;> simp

@[simp] theorem State.stopSuspended_frame (s : State) :
    s.stopSuspended.rck = s.rck ∧ s.stopSuspended.sif = s.sif ∧ s.stopSuspended.psq = s.psq ∧
    s.stopSuspended.slots = s.slots ∧ s.stopSuspended.qac = s.qac ∧ s.stopSuspended.tau = s.tau ∧
    s.stopSuspended.pcu = s.pcu ∧ s.stopSuspended.ttb = s.ttb ∧ s.stopSuspended.fetch = s.fetch ∧
    s.stopSuspended.mail = s.mail ∧ s.stopSuspended.ticks = s.ticks ∧ s.stopSuspended.resetDue = s.resetDue ∧
    s.stopSuspended.freeSeed = s.freeSeed ∧ s.stopSuspended.pending = s.pending := by unfold State.stopSuspended; split <;> simp

@[simp] theorem State.suspendOrGoOn_frame (s : State) (o : Running) :
    (s.suspendOrGoOn o).rck = s.rck ∧ (s.suspendOrGoOn o).sif = s.sif ∧ (s.suspendOrGoOn o).psq = s.psq ∧
    (s.suspendOrGoOn o).slots = s.slots ∧ (s.suspendOrGoOn o).qac = s.qac ∧ (s.suspendOrGoOn o).tau = s.tau ∧
    (s.suspendOrGoOn o).pcu = s.pcu ∧ (s.suspendOrGoOn o).ttb = s.ttb ∧ (s.suspendOrGoOn o).fetch = s.fetch ∧
    (s.suspendOrGoOn o).mail = s.mail ∧ (s.suspendOrGoOn o).ticks = s.ticks ∧
    (s.suspendOrGoOn o).resetDue = s.resetDue ∧ (s.suspendOrGoOn o).freeSeed = s.freeSeed ∧
    (s.suspendOrGoOn o).pending = s.pending := by unfold State.suspendOrGoOn; split <;> simp

@[simp] theorem State.capture_frame (s : State) (i : Slot) (r : SlotRecord) (n : Nat) (e : StageEntry) :
    (s.capture i r n e).testLink = s.testLink ∧ (s.capture i r n e).handlerLink = s.handlerLink ∧
    (s.capture i r n e).lineLink = s.lineLink ∧ (s.capture i r n e).sif = s.sif ∧ (s.capture i r n e).psq = s.psq ∧
    (s.capture i r n e).qac = s.qac ∧ (s.capture i r n e).tau = s.tau ∧ (s.capture i r n e).rst = s.rst ∧
    (s.capture i r n e).pcu = s.pcu ∧ (s.capture i r n e).ttb = s.ttb ∧ (s.capture i r n e).fetch = s.fetch ∧
    (s.capture i r n e).ticks = s.ticks ∧ (s.capture i r n e).resetDue = s.resetDue ∧
    (s.capture i r n e).freeSeed = s.freeSeed ∧ (s.capture i r n e).pending = s.pending := by unfold State.capture; simp

@[simp] theorem State.gradeSlot_frame (s : State) (i : Slot) (r : SlotRecord) (l : Option Limits) (n : Nat) :
    (s.gradeSlot i r l n).testLink = s.testLink ∧ (s.gradeSlot i r l n).handlerLink = s.handlerLink ∧
    (s.gradeSlot i r l n).lineLink = s.lineLink ∧ (s.gradeSlot i r l n).sif = s.sif ∧
    (s.gradeSlot i r l n).psq = s.psq ∧ (s.gradeSlot i r l n).qac = s.qac ∧ (s.gradeSlot i r l n).tau = s.tau ∧
    (s.gradeSlot i r l n).pcu = s.pcu ∧ (s.gradeSlot i r l n).fetch = s.fetch ∧
    (s.gradeSlot i r l n).ticks = s.ticks ∧ (s.gradeSlot i r l n).resetDue = s.resetDue ∧
    (s.gradeSlot i r l n).freeSeed = s.freeSeed ∧ (s.gradeSlot i r l n).pending = s.pending := by unfold State.gradeSlot; simp

@[simp] theorem State.gradeToSpinDown_frame (s : State) (i : Slot) (r : SlotRecord) (l : Option Limits) (n : Nat) :
    (s.gradeToSpinDown i r l n).testLink = s.testLink ∧ (s.gradeToSpinDown i r l n).handlerLink = s.handlerLink ∧
    (s.gradeToSpinDown i r l n).lineLink = s.lineLink ∧ (s.gradeToSpinDown i r l n).sif = s.sif ∧
    (s.gradeToSpinDown i r l n).psq = s.psq ∧ (s.gradeToSpinDown i r l n).qac = s.qac ∧
    (s.gradeToSpinDown i r l n).tau = s.tau ∧ (s.gradeToSpinDown i r l n).pcu = s.pcu ∧
    (s.gradeToSpinDown i r l n).fetch = s.fetch ∧ (s.gradeToSpinDown i r l n).ticks = s.ticks ∧
    (s.gradeToSpinDown i r l n).resetDue = s.resetDue ∧ (s.gradeToSpinDown i r l n).freeSeed = s.freeSeed ∧
    (s.gradeToSpinDown i r l n).pending = s.pending := by unfold State.gradeToSpinDown; simp

@[simp] theorem State.arrive_frame (s : State) (i : Slot) (u : Bool) :
    (s.arrive i u).rck = s.rck ∧ (s.arrive i u).sif = s.sif ∧ (s.arrive i u).psq = s.psq ∧
    (s.arrive i u).qac = s.qac ∧ (s.arrive i u).tau = s.tau ∧ (s.arrive i u).rst = s.rst ∧
    (s.arrive i u).pcu = s.pcu ∧ (s.arrive i u).ttb = s.ttb ∧ (s.arrive i u).fetch = s.fetch ∧
    (s.arrive i u).ticks = s.ticks ∧ (s.arrive i u).resetDue = s.resetDue ∧ (s.arrive i u).freeSeed = s.freeSeed ∧
    (s.arrive i u).pending = s.pending := by unfold State.arrive; simp

@[simp] theorem State.servePresent_frame (s : State) (i : Slot) (u : Bool) :
    (s.servePresent i u).rck = s.rck ∧ (s.servePresent i u).sif = s.sif ∧ (s.servePresent i u).psq = s.psq ∧
    (s.servePresent i u).qac = s.qac ∧ (s.servePresent i u).tau = s.tau ∧ (s.servePresent i u).rst = s.rst ∧
    (s.servePresent i u).pcu = s.pcu ∧ (s.servePresent i u).ttb = s.ttb ∧ (s.servePresent i u).fetch = s.fetch ∧
    (s.servePresent i u).ticks = s.ticks ∧ (s.servePresent i u).resetDue = s.resetDue ∧
    (s.servePresent i u).freeSeed = s.freeSeed ∧ (s.servePresent i u).pending = s.pending := by unfold State.servePresent; simp only []; split <;> (try split) <;> (try split) <;> simp

@[simp] theorem State.serveLatchOpen_frame (s : State) (i : Slot) :
    (s.serveLatchOpen i).testLink = s.testLink ∧ (s.serveLatchOpen i).handlerLink = s.handlerLink ∧
    (s.serveLatchOpen i).lineLink = s.lineLink ∧ (s.serveLatchOpen i).sif = s.sif ∧
    (s.serveLatchOpen i).psq = s.psq ∧ (s.serveLatchOpen i).qac = s.qac ∧ (s.serveLatchOpen i).tau = s.tau ∧
    (s.serveLatchOpen i).pcu = s.pcu ∧ (s.serveLatchOpen i).fetch = s.fetch ∧
    (s.serveLatchOpen i).ticks = s.ticks ∧ (s.serveLatchOpen i).resetDue = s.resetDue ∧
    (s.serveLatchOpen i).freeSeed = s.freeSeed ∧ (s.serveLatchOpen i).pending = s.pending := by unfold State.serveLatchOpen; simp only []; split <;> simp

@[simp] theorem State.serveLatchClosed_frame (s : State) (i : Slot) :
    (s.serveLatchClosed i).testLink = s.testLink ∧ (s.serveLatchClosed i).handlerLink = s.handlerLink ∧
    (s.serveLatchClosed i).lineLink = s.lineLink ∧ (s.serveLatchClosed i).rck = s.rck ∧
    (s.serveLatchClosed i).sif = s.sif ∧ (s.serveLatchClosed i).psq = s.psq ∧ (s.serveLatchClosed i).qac = s.qac ∧
    (s.serveLatchClosed i).tau = s.tau ∧ (s.serveLatchClosed i).rst = s.rst ∧ (s.serveLatchClosed i).pcu = s.pcu ∧
    (s.serveLatchClosed i).ttb = s.ttb ∧ (s.serveLatchClosed i).fetch = s.fetch ∧
    (s.serveLatchClosed i).ticks = s.ticks ∧ (s.serveLatchClosed i).resetDue = s.resetDue ∧
    (s.serveLatchClosed i).freeSeed = s.freeSeed ∧ (s.serveLatchClosed i).pending = s.pending := by unfold State.serveLatchClosed; simp

@[simp] theorem State.serveStartAnswer_frame (s : State) (i : Slot) (n : Nat) (r : FetchResult) :
    (s.serveStartAnswer i n r).sif = s.sif ∧ (s.serveStartAnswer i n r).psq = s.psq ∧
    (s.serveStartAnswer i n r).qac = s.qac ∧ (s.serveStartAnswer i n r).tau = s.tau ∧
    (s.serveStartAnswer i n r).pcu = s.pcu ∧ (s.serveStartAnswer i n r).ttb = s.ttb ∧
    (s.serveStartAnswer i n r).fetch = s.fetch ∧ (s.serveStartAnswer i n r).ticks = s.ticks ∧
    (s.serveStartAnswer i n r).resetDue = s.resetDue ∧ (s.serveStartAnswer i n r).freeSeed = s.freeSeed ∧
    (s.serveStartAnswer i n r).pending = s.pending := by unfold State.serveStartAnswer; split <;> (try split) <;> simp

@[simp] theorem State.serveStageAnswer_frame (s : State) (i : Slot) (n : Nat) (r : FetchResult) :
    (s.serveStageAnswer i n r).sif = s.sif ∧ (s.serveStageAnswer i n r).psq = s.psq ∧
    (s.serveStageAnswer i n r).qac = s.qac ∧ (s.serveStageAnswer i n r).tau = s.tau ∧
    (s.serveStageAnswer i n r).rst = s.rst ∧ (s.serveStageAnswer i n r).pcu = s.pcu ∧
    (s.serveStageAnswer i n r).ttb = s.ttb ∧ (s.serveStageAnswer i n r).fetch = s.fetch ∧
    (s.serveStageAnswer i n r).ticks = s.ticks ∧ (s.serveStageAnswer i n r).resetDue = s.resetDue ∧
    (s.serveStageAnswer i n r).freeSeed = s.freeSeed ∧ (s.serveStageAnswer i n r).pending = s.pending := by unfold State.serveStageAnswer; split <;> (try split) <;> simp

@[simp] theorem State.serveLimitsAnswer_frame (s : State) (i : Slot) (r : FetchResult) :
    (s.serveLimitsAnswer i r).sif = s.sif ∧ (s.serveLimitsAnswer i r).psq = s.psq ∧
    (s.serveLimitsAnswer i r).qac = s.qac ∧ (s.serveLimitsAnswer i r).tau = s.tau ∧
    (s.serveLimitsAnswer i r).pcu = s.pcu ∧ (s.serveLimitsAnswer i r).fetch = s.fetch ∧
    (s.serveLimitsAnswer i r).ticks = s.ticks ∧ (s.serveLimitsAnswer i r).resetDue = s.resetDue ∧
    (s.serveLimitsAnswer i r).freeSeed = s.freeSeed ∧ (s.serveLimitsAnswer i r).pending = s.pending := by unfold State.serveLimitsAnswer; split <;> (try split) <;> simp

@[simp] theorem State.serveOvertemp_frame (s : State) (i : Slot) :
    (s.serveOvertemp i).sif = s.sif ∧ (s.serveOvertemp i).psq = s.psq ∧ (s.serveOvertemp i).qac = s.qac ∧
    (s.serveOvertemp i).tau = s.tau ∧ (s.serveOvertemp i).pcu = s.pcu ∧ (s.serveOvertemp i).fetch = s.fetch ∧
    (s.serveOvertemp i).ticks = s.ticks ∧ (s.serveOvertemp i).resetDue = s.resetDue ∧
    (s.serveOvertemp i).freeSeed = s.freeSeed ∧ (s.serveOvertemp i).pending = s.pending := by unfold State.serveOvertemp; split <;> simp

@[simp] theorem State.takeFrame_frame (s : State) (l : Link) (n : Nat) (p : List Byte) :
    (s.takeFrame l n p).rck = s.rck ∧ (s.takeFrame l n p).sif = s.sif ∧ (s.takeFrame l n p).psq = s.psq ∧
    (s.takeFrame l n p).slots = s.slots ∧ (s.takeFrame l n p).qac = s.qac ∧ (s.takeFrame l n p).tau = s.tau ∧
    (s.takeFrame l n p).pcu = s.pcu ∧ (s.takeFrame l n p).ttb = s.ttb ∧ (s.takeFrame l n p).fetch = s.fetch ∧
    (s.takeFrame l n p).mail = s.mail ∧ (s.takeFrame l n p).ticks = s.ticks ∧
    (s.takeFrame l n p).resetDue = s.resetDue ∧ (s.takeFrame l n p).freeSeed = s.freeSeed ∧
    (s.takeFrame l n p).pending = s.pending := by unfold State.takeFrame; split <;> (try split) <;> (try split) <;> simp

@[simp] theorem State.completeFrame_frame (s : State) (l : Link) (n : Nat) (p : List Byte) :
    (s.completeFrame l n p).rck = s.rck ∧ (s.completeFrame l n p).sif = s.sif ∧
    (s.completeFrame l n p).psq = s.psq ∧ (s.completeFrame l n p).slots = s.slots ∧
    (s.completeFrame l n p).qac = s.qac ∧ (s.completeFrame l n p).tau = s.tau ∧
    (s.completeFrame l n p).pcu = s.pcu ∧ (s.completeFrame l n p).ttb = s.ttb ∧
    (s.completeFrame l n p).fetch = s.fetch ∧ (s.completeFrame l n p).mail = s.mail ∧
    (s.completeFrame l n p).ticks = s.ticks ∧ (s.completeFrame l n p).resetDue = s.resetDue ∧
    (s.completeFrame l n p).freeSeed = s.freeSeed ∧ (s.completeFrame l n p).pending = s.pending := by unfold State.completeFrame; simp only []; split <;> (try split) <;> simp

@[simp] theorem State.receive_frame (s : State) (l : Link) (x : Byte) :
    (s.receive l x).rck = s.rck ∧ (s.receive l x).sif = s.sif ∧ (s.receive l x).psq = s.psq ∧
    (s.receive l x).slots = s.slots ∧ (s.receive l x).qac = s.qac ∧ (s.receive l x).tau = s.tau ∧
    (s.receive l x).pcu = s.pcu ∧ (s.receive l x).ttb = s.ttb ∧ (s.receive l x).fetch = s.fetch ∧
    (s.receive l x).mail = s.mail ∧ (s.receive l x).ticks = s.ticks ∧ (s.receive l x).resetDue = s.resetDue ∧
    (s.receive l x).freeSeed = s.freeSeed ∧ (s.receive l x).pending = s.pending := by unfold State.receive; split <;> split <;> simp
theorem giveReports_frame (js : List Slot) (o : PowerReport) : ∀ s : State,
    (js.foldl (fun t i => t.giveReport i o) s).testLink = s.testLink ∧
    (js.foldl (fun t i => t.giveReport i o) s).handlerLink = s.handlerLink ∧
    (js.foldl (fun t i => t.giveReport i o) s).lineLink = s.lineLink ∧
    (js.foldl (fun t i => t.giveReport i o) s).rck = s.rck ∧
    (js.foldl (fun t i => t.giveReport i o) s).sif = s.sif ∧
    (js.foldl (fun t i => t.giveReport i o) s).psq = s.psq ∧
    (js.foldl (fun t i => t.giveReport i o) s).slots = s.slots ∧
    (js.foldl (fun t i => t.giveReport i o) s).qac = s.qac ∧
    (js.foldl (fun t i => t.giveReport i o) s).tau = s.tau ∧
    (js.foldl (fun t i => t.giveReport i o) s).rst = s.rst ∧
    (js.foldl (fun t i => t.giveReport i o) s).pcu = s.pcu ∧
    (js.foldl (fun t i => t.giveReport i o) s).ttb = s.ttb ∧
    (js.foldl (fun t i => t.giveReport i o) s).fetch = s.fetch ∧
    (js.foldl (fun t i => t.giveReport i o) s).ticks = s.ticks ∧
    (js.foldl (fun t i => t.giveReport i o) s).resetDue = s.resetDue ∧
    (js.foldl (fun t i => t.giveReport i o) s).freeSeed = s.freeSeed ∧
    (js.foldl (fun t i => t.giveReport i o) s).pending = s.pending := by
  induction js with
  | nil => intro s; simp
  | cons j js ih => intro s; simpa using ih (s.giveReport j o)

@[simp] theorem State.lookAtQueue_frame (s : State) :
    s.lookAtQueue.testLink = s.testLink ∧ s.lookAtQueue.handlerLink = s.handlerLink ∧
    s.lookAtQueue.lineLink = s.lineLink ∧ s.lookAtQueue.rck = s.rck ∧ s.lookAtQueue.sif = s.sif ∧
    s.lookAtQueue.slots = s.slots ∧ s.lookAtQueue.qac = s.qac ∧ s.lookAtQueue.tau = s.tau ∧
    s.lookAtQueue.rst = s.rst ∧ s.lookAtQueue.pcu = s.pcu ∧ s.lookAtQueue.ttb = s.ttb ∧
    s.lookAtQueue.fetch = s.fetch ∧ s.lookAtQueue.ticks = s.ticks ∧ s.lookAtQueue.resetDue = s.resetDue ∧
    s.lookAtQueue.freeSeed = s.freeSeed ∧ s.lookAtQueue.pending = s.pending := by
  obtain ⟨h0, h1, h2, h3, h4, _, h6, h7, h8, h9, h10, h11, h12, h13, h14, h15, h16⟩ := giveReports_frame
    (Psq.startAll s.rck.osc s.psq.queue s.psq).2 .started { s with psq := (Psq.startAll s.rck.osc s.psq.queue s.psq).1 }
  exact ⟨h0, h1, h2, h3, h4, h6, h7, h8, h9, h10, h11, h12, h13, h14, h15, h16⟩

@[simp] theorem State.runPowerOff_frame (s : State) (i : Slot) (q : Bool) :
    (s.runPowerOff i q).rck = s.rck ∧ (s.runPowerOff i q).sif = s.sif ∧ (s.runPowerOff i q).qac = s.qac ∧
    (s.runPowerOff i q).tau = s.tau ∧ (s.runPowerOff i q).rst = s.rst ∧ (s.runPowerOff i q).pcu = s.pcu ∧
    (s.runPowerOff i q).ttb = s.ttb ∧ (s.runPowerOff i q).fetch = s.fetch ∧ (s.runPowerOff i q).ticks = s.ticks ∧
    (s.runPowerOff i q).resetDue = s.resetDue ∧ (s.runPowerOff i q).freeSeed = s.freeSeed ∧
    (s.runPowerOff i q).pending = s.pending := by unfold State.runPowerOff; simp

@[simp] theorem State.runSpinDown_frame (s : State) (i : Slot) :
    (s.runSpinDown i).testLink = s.testLink ∧ (s.runSpinDown i).handlerLink = s.handlerLink ∧
    (s.runSpinDown i).lineLink = s.lineLink ∧ (s.runSpinDown i).rck = s.rck ∧ (s.runSpinDown i).sif = s.sif ∧
    (s.runSpinDown i).slots = s.slots ∧ (s.runSpinDown i).qac = s.qac ∧ (s.runSpinDown i).tau = s.tau ∧
    (s.runSpinDown i).rst = s.rst ∧ (s.runSpinDown i).pcu = s.pcu ∧ (s.runSpinDown i).ttb = s.ttb ∧
    (s.runSpinDown i).fetch = s.fetch ∧ (s.runSpinDown i).ticks = s.ticks ∧
    (s.runSpinDown i).resetDue = s.resetDue ∧ (s.runSpinDown i).freeSeed = s.freeSeed ∧
    (s.runSpinDown i).pending = s.pending := by unfold State.runSpinDown; simp

@[simp] theorem State.runRelease_frame (s : State) (i : Slot) :
    (s.runRelease i).testLink = s.testLink ∧ (s.runRelease i).handlerLink = s.handlerLink ∧
    (s.runRelease i).lineLink = s.lineLink ∧ (s.runRelease i).rck = s.rck ∧ (s.runRelease i).sif = s.sif ∧
    (s.runRelease i).slots = s.slots ∧ (s.runRelease i).qac = s.qac ∧ (s.runRelease i).tau = s.tau ∧
    (s.runRelease i).rst = s.rst ∧ (s.runRelease i).pcu = s.pcu ∧ (s.runRelease i).ttb = s.ttb ∧
    (s.runRelease i).fetch = s.fetch ∧ (s.runRelease i).ticks = s.ticks ∧ (s.runRelease i).resetDue = s.resetDue ∧
    (s.runRelease i).freeSeed = s.freeSeed ∧ (s.runRelease i).pending = s.pending := by unfold State.runRelease; simp

@[simp] theorem State.runOrder_frame (s : State) (i : Slot) (o : PowerOrder) :
    (s.runOrder i o).rck = s.rck ∧ (s.runOrder i o).sif = s.sif ∧ (s.runOrder i o).qac = s.qac ∧
    (s.runOrder i o).tau = s.tau ∧ (s.runOrder i o).rst = s.rst ∧ (s.runOrder i o).pcu = s.pcu ∧
    (s.runOrder i o).ttb = s.ttb ∧ (s.runOrder i o).fetch = s.fetch ∧ (s.runOrder i o).ticks = s.ticks ∧
    (s.runOrder i o).resetDue = s.resetDue ∧ (s.runOrder i o).freeSeed = s.freeSeed ∧
    (s.runOrder i o).pending = s.pending := by cases o <;> simp [State.runOrder]

@[simp] theorem State.runOrders_frame (i : Slot) (os : List PowerOrder) : ∀ s : State,
    (State.runOrders i os s).rck = s.rck ∧ (State.runOrders i os s).sif = s.sif ∧
    (State.runOrders i os s).qac = s.qac ∧ (State.runOrders i os s).tau = s.tau ∧
    (State.runOrders i os s).rst = s.rst ∧ (State.runOrders i os s).pcu = s.pcu ∧
    (State.runOrders i os s).ttb = s.ttb ∧ (State.runOrders i os s).fetch = s.fetch ∧
    (State.runOrders i os s).ticks = s.ticks ∧ (State.runOrders i os s).resetDue = s.resetDue ∧
    (State.runOrders i os s).freeSeed = s.freeSeed ∧ (State.runOrders i os s).pending = s.pending := by
  induction os with
  | nil => intro s; simp [State.runOrders]
  | cons o os ih => intro s; simpa [State.runOrders] using ih ((s.dropOrder i).runOrder i o)

theorem State.reserve?_frame (s t : State) (g : Bin) (i : Slot) (h : s.reserve? g i = some t) :
    t.rck = s.rck ∧ t.sif = s.sif ∧ t.psq = s.psq ∧ t.qac = s.qac ∧ t.tau = s.tau ∧ t.rst = s.rst ∧ t.pcu = s.pcu ∧
    t.fetch = s.fetch ∧ t.ticks = s.ticks ∧ t.resetDue = s.resetDue ∧ t.freeSeed = s.freeSeed ∧
    t.pending = s.pending := by
  unfold State.reserve? at h
  simp only [Option.bind_eq_some_iff, Option.map_eq_some_iff] at h
  obtain ⟨x, -, p, -, rfl⟩ := h
  simp

@[simp] theorem State.dispatch_frame (s : State) (i : Slot) :
    (s.dispatch i).rck = s.rck ∧ (s.dispatch i).sif = s.sif ∧ (s.dispatch i).psq = s.psq ∧
    (s.dispatch i).qac = s.qac ∧ (s.dispatch i).tau = s.tau ∧ (s.dispatch i).rst = s.rst ∧
    (s.dispatch i).pcu = s.pcu ∧ (s.dispatch i).fetch = s.fetch ∧ (s.dispatch i).ticks = s.ticks ∧
    (s.dispatch i).resetDue = s.resetDue ∧ (s.dispatch i).freeSeed = s.freeSeed ∧ (s.dispatch i).pending = s.pending := by
  unfold State.dispatch
  split
  · next g _ =>
    cases h : s.reserve? g.1 i with
    | none => simp
    | some t => simpa using State.reserve?_frame s t g.1 i h
  · simp

@[simp] theorem State.serveQueue_frame (g : Bin) (js : List Slot) : ∀ s : State,
    (State.serveQueue g js s).1.rck = s.rck ∧ (State.serveQueue g js s).1.sif = s.sif ∧
    (State.serveQueue g js s).1.psq = s.psq ∧ (State.serveQueue g js s).1.qac = s.qac ∧
    (State.serveQueue g js s).1.tau = s.tau ∧ (State.serveQueue g js s).1.rst = s.rst ∧
    (State.serveQueue g js s).1.pcu = s.pcu ∧ (State.serveQueue g js s).1.fetch = s.fetch ∧
    (State.serveQueue g js s).1.ticks = s.ticks ∧ (State.serveQueue g js s).1.resetDue = s.resetDue ∧
    (State.serveQueue g js s).1.freeSeed = s.freeSeed ∧ (State.serveQueue g js s).1.pending = s.pending := by
  induction js with
  | nil => intro s; simp [State.serveQueue]
  | cons j js ih =>
    intro s
    unfold State.serveQueue
    split
    · next t h =>
      have a := ih t
      have c := State.reserve?_frame _ t g j h
      simp only [State.setQueue_rck, State.setQueue_sif, State.setQueue_psq, State.setQueue_qac, State.setQueue_tau, State.setQueue_rst, State.setQueue_pcu, State.setQueue_fetch, State.setQueue_ticks, State.setQueue_resetDue, State.setQueue_freeSeed, State.setQueue_pending] at c
      simp_all
    · simp

@[simp] theorem State.releaseReservation_frame (s : State) (i : Slot) :
    (s.releaseReservation i).rck = s.rck ∧ (s.releaseReservation i).sif = s.sif ∧
    (s.releaseReservation i).psq = s.psq ∧ (s.releaseReservation i).qac = s.qac ∧
    (s.releaseReservation i).tau = s.tau ∧ (s.releaseReservation i).rst = s.rst ∧
    (s.releaseReservation i).pcu = s.pcu ∧ (s.releaseReservation i).fetch = s.fetch ∧
    (s.releaseReservation i).ticks = s.ticks ∧ (s.releaseReservation i).resetDue = s.resetDue ∧
    (s.releaseReservation i).freeSeed = s.freeSeed ∧ (s.releaseReservation i).pending = s.pending := by
  unfold State.releaseReservation
  split
  · next t body p _ =>
    simp only []
    split
    · simp
    · next j rest _ =>
      cases h : ((s.setTote t (.opened (body.put p .empty))).setQueue body.bin rest).reserve? body.bin j with
      | none => simp
      | some u => simpa using State.reserve?_frame _ u body.bin j h
  · simp

@[simp] theorem State.serveSpunDown_frame (s : State) (i : Slot) :
    (s.serveSpunDown i).rck = s.rck ∧ (s.serveSpunDown i).sif = s.sif ∧ (s.serveSpunDown i).psq = s.psq ∧
    (s.serveSpunDown i).qac = s.qac ∧ (s.serveSpunDown i).tau = s.tau ∧ (s.serveSpunDown i).rst = s.rst ∧
    (s.serveSpunDown i).pcu = s.pcu ∧ (s.serveSpunDown i).fetch = s.fetch ∧ (s.serveSpunDown i).ticks = s.ticks ∧
    (s.serveSpunDown i).resetDue = s.resetDue ∧ (s.serveSpunDown i).freeSeed = s.freeSeed ∧
    (s.serveSpunDown i).pending = s.pending := by unfold State.serveSpunDown; split <;> (try split) <;> simp

@[simp] theorem State.loseDrive_frame (s : State) (i : Slot) :
    (s.loseDrive i).sif = s.sif ∧ (s.loseDrive i).psq = s.psq ∧ (s.loseDrive i).qac = s.qac ∧
    (s.loseDrive i).tau = s.tau ∧ (s.loseDrive i).pcu = s.pcu ∧ (s.loseDrive i).fetch = s.fetch ∧
    (s.loseDrive i).ticks = s.ticks ∧ (s.loseDrive i).resetDue = s.resetDue ∧
    (s.loseDrive i).freeSeed = s.freeSeed ∧ (s.loseDrive i).pending = s.pending := by unfold State.loseDrive; simp only []; split <;> simp

@[simp] theorem State.serveAbsent_frame (s : State) (i : Slot) :
    (s.serveAbsent i).sif = s.sif ∧ (s.serveAbsent i).psq = s.psq ∧ (s.serveAbsent i).qac = s.qac ∧
    (s.serveAbsent i).tau = s.tau ∧ (s.serveAbsent i).pcu = s.pcu ∧ (s.serveAbsent i).fetch = s.fetch ∧
    (s.serveAbsent i).ticks = s.ticks ∧ (s.serveAbsent i).resetDue = s.resetDue ∧
    (s.serveAbsent i).freeSeed = s.freeSeed ∧ (s.serveAbsent i).pending = s.pending := by unfold State.serveAbsent; simp only []; split <;> (try split) <;> simp

@[simp] theorem State.endAccess_frame (s : State) (r : Fin 2) (u : AccessUse) (p o q : Bool) :
    (s.endAccess r u p o q).1.sif = s.sif ∧ (s.endAccess r u p o q).1.psq = s.psq ∧
    (s.endAccess r u p o q).1.tau = s.tau ∧ (s.endAccess r u p o q).1.pcu = s.pcu ∧
    (s.endAccess r u p o q).1.fetch = s.fetch ∧ (s.endAccess r u p o q).1.ticks = s.ticks ∧
    (s.endAccess r u p o q).1.resetDue = s.resetDue ∧ (s.endAccess r u p o q).1.freeSeed = s.freeSeed ∧
    (s.endAccess r u p o q).1.pending = s.pending := by unfold State.endAccess; simp only []; split <;> split <;> simp

@[simp] theorem State.oscillate_frame (s : State) :
    s.oscillate.testLink = s.testLink ∧ s.oscillate.handlerLink = s.handlerLink ∧
    s.oscillate.lineLink = s.lineLink ∧ s.oscillate.sif = s.sif ∧ s.oscillate.psq = s.psq ∧
    s.oscillate.slots = s.slots ∧ s.oscillate.qac = s.qac ∧ s.oscillate.tau = s.tau ∧ s.oscillate.rst = s.rst ∧
    s.oscillate.pcu = s.pcu ∧ s.oscillate.ttb = s.ttb ∧ s.oscillate.fetch = s.fetch ∧ s.oscillate.mail = s.mail ∧
    s.oscillate.resetDue = s.resetDue ∧ s.oscillate.freeSeed = s.freeSeed ∧ s.oscillate.pending = s.pending := by unfold State.oscillate; split <;> simp

@[simp] theorem serveTakeNotice_frame (s : State) (l : Link) :
    (serveTakeNotice l s).1.rck = s.rck ∧ (serveTakeNotice l s).1.sif = s.sif ∧
    (serveTakeNotice l s).1.psq = s.psq ∧ (serveTakeNotice l s).1.slots = s.slots ∧
    (serveTakeNotice l s).1.qac = s.qac ∧ (serveTakeNotice l s).1.tau = s.tau ∧
    (serveTakeNotice l s).1.rst = s.rst ∧ (serveTakeNotice l s).1.pcu = s.pcu ∧
    (serveTakeNotice l s).1.ttb = s.ttb ∧ (serveTakeNotice l s).1.fetch = s.fetch ∧
    (serveTakeNotice l s).1.mail = s.mail ∧ (serveTakeNotice l s).1.ticks = s.ticks ∧
    (serveTakeNotice l s).1.resetDue = s.resetDue ∧ (serveTakeNotice l s).1.freeSeed = s.freeSeed ∧
    (serveTakeNotice l s).1.pending = s.pending := by
  unfold serveTakeNotice; repeat' (first | split | (simp only []; split))
  all_goals simp

@[simp] theorem serveSetLevels_frame (s : State) (l : Link) (es : List (Nat × Nat)) :
    (serveSetLevels l es s).1.rck = s.rck ∧ (serveSetLevels l es s).1.sif = s.sif ∧
    (serveSetLevels l es s).1.psq = s.psq ∧ (serveSetLevels l es s).1.slots = s.slots ∧
    (serveSetLevels l es s).1.qac = s.qac ∧ (serveSetLevels l es s).1.tau = s.tau ∧
    (serveSetLevels l es s).1.rst = s.rst ∧ (serveSetLevels l es s).1.pcu = s.pcu ∧
    (serveSetLevels l es s).1.ttb = s.ttb ∧ (serveSetLevels l es s).1.fetch = s.fetch ∧
    (serveSetLevels l es s).1.mail = s.mail ∧ (serveSetLevels l es s).1.ticks = s.ticks ∧
    (serveSetLevels l es s).1.resetDue = s.resetDue ∧ (serveSetLevels l es s).1.freeSeed = s.freeSeed ∧
    (serveSetLevels l es s).1.pending = s.pending := by
  unfold serveSetLevels; repeat' (first | split | (simp only []; split))
  all_goals simp

@[simp] theorem serveSetMask_frame (s : State) (l : Link) (n : Nat) :
    (serveSetMask l n s).1.rck = s.rck ∧ (serveSetMask l n s).1.sif = s.sif ∧ (serveSetMask l n s).1.psq = s.psq ∧
    (serveSetMask l n s).1.slots = s.slots ∧ (serveSetMask l n s).1.qac = s.qac ∧
    (serveSetMask l n s).1.tau = s.tau ∧ (serveSetMask l n s).1.rst = s.rst ∧ (serveSetMask l n s).1.pcu = s.pcu ∧
    (serveSetMask l n s).1.ttb = s.ttb ∧ (serveSetMask l n s).1.fetch = s.fetch ∧
    (serveSetMask l n s).1.mail = s.mail ∧ (serveSetMask l n s).1.ticks = s.ticks ∧
    (serveSetMask l n s).1.resetDue = s.resetDue ∧ (serveSetMask l n s).1.freeSeed = s.freeSeed ∧
    (serveSetMask l n s).1.pending = s.pending := by
  unfold serveSetMask; repeat' (first | split | (simp only []; split))
  all_goals simp

@[simp] theorem serveRackReset_frame (s : State) :
    (serveRackReset s).1.testLink = s.testLink ∧ (serveRackReset s).1.handlerLink = s.handlerLink ∧
    (serveRackReset s).1.lineLink = s.lineLink ∧ (serveRackReset s).1.rck = s.rck ∧
    (serveRackReset s).1.sif = s.sif ∧ (serveRackReset s).1.psq = s.psq ∧ (serveRackReset s).1.slots = s.slots ∧
    (serveRackReset s).1.qac = s.qac ∧ (serveRackReset s).1.tau = s.tau ∧ (serveRackReset s).1.rst = s.rst ∧
    (serveRackReset s).1.pcu = s.pcu ∧ (serveRackReset s).1.ttb = s.ttb ∧ (serveRackReset s).1.fetch = s.fetch ∧
    (serveRackReset s).1.mail = s.mail ∧ (serveRackReset s).1.ticks = s.ticks ∧
    (serveRackReset s).1.resetDue = s.resetDue ∧ (serveRackReset s).1.freeSeed = s.freeSeed ∧
    (serveRackReset s).1.pending = s.pending := by
  unfold serveRackReset; repeat' (first | split | (simp only []; split))
  all_goals simp

@[simp] theorem serveReadClock_frame (s : State) :
    (serveReadClock s).1.testLink = s.testLink ∧ (serveReadClock s).1.handlerLink = s.handlerLink ∧
    (serveReadClock s).1.lineLink = s.lineLink ∧ (serveReadClock s).1.rck = s.rck ∧
    (serveReadClock s).1.sif = s.sif ∧ (serveReadClock s).1.psq = s.psq ∧ (serveReadClock s).1.slots = s.slots ∧
    (serveReadClock s).1.qac = s.qac ∧ (serveReadClock s).1.tau = s.tau ∧ (serveReadClock s).1.rst = s.rst ∧
    (serveReadClock s).1.pcu = s.pcu ∧ (serveReadClock s).1.ttb = s.ttb ∧ (serveReadClock s).1.fetch = s.fetch ∧
    (serveReadClock s).1.mail = s.mail ∧ (serveReadClock s).1.ticks = s.ticks ∧
    (serveReadClock s).1.resetDue = s.resetDue ∧ (serveReadClock s).1.freeSeed = s.freeSeed ∧
    (serveReadClock s).1.pending = s.pending := by
  unfold serveReadClock; repeat' (first | split | (simp only []; split))
  all_goals simp

@[simp] theorem serveSetTime_frame (s : State) (a b : Nat) :
    (serveSetTime a b s).1.testLink = s.testLink ∧ (serveSetTime a b s).1.handlerLink = s.handlerLink ∧
    (serveSetTime a b s).1.lineLink = s.lineLink ∧ (serveSetTime a b s).1.sif = s.sif ∧
    (serveSetTime a b s).1.psq = s.psq ∧ (serveSetTime a b s).1.slots = s.slots ∧
    (serveSetTime a b s).1.qac = s.qac ∧ (serveSetTime a b s).1.tau = s.tau ∧ (serveSetTime a b s).1.rst = s.rst ∧
    (serveSetTime a b s).1.pcu = s.pcu ∧ (serveSetTime a b s).1.ttb = s.ttb ∧
    (serveSetTime a b s).1.fetch = s.fetch ∧ (serveSetTime a b s).1.ticks = s.ticks ∧
    (serveSetTime a b s).1.resetDue = s.resetDue ∧ (serveSetTime a b s).1.freeSeed = s.freeSeed ∧
    (serveSetTime a b s).1.pending = s.pending := by
  unfold serveSetTime; repeat' (first | split | (simp only []; split))
  all_goals simp

@[simp] theorem serveSetInputs_frame (s : State) (a b c : Nat) :
    (serveSetInputs a b c s).1.testLink = s.testLink ∧ (serveSetInputs a b c s).1.handlerLink = s.handlerLink ∧
    (serveSetInputs a b c s).1.lineLink = s.lineLink ∧ (serveSetInputs a b c s).1.rck = s.rck ∧
    (serveSetInputs a b c s).1.psq = s.psq ∧ (serveSetInputs a b c s).1.slots = s.slots ∧
    (serveSetInputs a b c s).1.qac = s.qac ∧ (serveSetInputs a b c s).1.tau = s.tau ∧
    (serveSetInputs a b c s).1.rst = s.rst ∧ (serveSetInputs a b c s).1.pcu = s.pcu ∧
    (serveSetInputs a b c s).1.ttb = s.ttb ∧ (serveSetInputs a b c s).1.fetch = s.fetch ∧
    (serveSetInputs a b c s).1.mail = s.mail ∧ (serveSetInputs a b c s).1.ticks = s.ticks ∧
    (serveSetInputs a b c s).1.resetDue = s.resetDue ∧ (serveSetInputs a b c s).1.freeSeed = s.freeSeed ∧
    (serveSetInputs a b c s).1.pending = s.pending := by
  unfold serveSetInputs; repeat' (first | split | (simp only []; split))
  all_goals simp

@[simp] theorem servePowerOn_frame (s : State) (n : Nat) :
    (servePowerOn n s).1.rck = s.rck ∧ (servePowerOn n s).1.sif = s.sif ∧ (servePowerOn n s).1.qac = s.qac ∧
    (servePowerOn n s).1.tau = s.tau ∧ (servePowerOn n s).1.rst = s.rst ∧ (servePowerOn n s).1.pcu = s.pcu ∧
    (servePowerOn n s).1.ttb = s.ttb ∧ (servePowerOn n s).1.fetch = s.fetch ∧
    (servePowerOn n s).1.ticks = s.ticks ∧ (servePowerOn n s).1.resetDue = s.resetDue ∧
    (servePowerOn n s).1.freeSeed = s.freeSeed ∧ (servePowerOn n s).1.pending = s.pending := by
  unfold servePowerOn; repeat' (first | split | (simp only []; split))
  all_goals simp

@[simp] theorem servePowerOff_frame (s : State) (n : Nat) :
    (servePowerOff n s).1.testLink = s.testLink ∧ (servePowerOff n s).1.handlerLink = s.handlerLink ∧
    (servePowerOff n s).1.lineLink = s.lineLink ∧ (servePowerOff n s).1.rck = s.rck ∧
    (servePowerOff n s).1.sif = s.sif ∧ (servePowerOff n s).1.psq = s.psq ∧ (servePowerOff n s).1.slots = s.slots ∧
    (servePowerOff n s).1.qac = s.qac ∧ (servePowerOff n s).1.tau = s.tau ∧ (servePowerOff n s).1.rst = s.rst ∧
    (servePowerOff n s).1.pcu = s.pcu ∧ (servePowerOff n s).1.ttb = s.ttb ∧ (servePowerOff n s).1.fetch = s.fetch ∧
    (servePowerOff n s).1.ticks = s.ticks ∧ (servePowerOff n s).1.resetDue = s.resetDue ∧
    (servePowerOff n s).1.freeSeed = s.freeSeed ∧ (servePowerOff n s).1.pending = s.pending := by
  unfold servePowerOff; repeat' (first | split | (simp only []; split))
  all_goals simp

@[simp] theorem serveSetPower_frame (s : State) (a b c : Nat) :
    (serveSetPower a b c s).1.testLink = s.testLink ∧ (serveSetPower a b c s).1.handlerLink = s.handlerLink ∧
    (serveSetPower a b c s).1.lineLink = s.lineLink ∧ (serveSetPower a b c s).1.rck = s.rck ∧
    (serveSetPower a b c s).1.sif = s.sif ∧ (serveSetPower a b c s).1.slots = s.slots ∧
    (serveSetPower a b c s).1.qac = s.qac ∧ (serveSetPower a b c s).1.tau = s.tau ∧
    (serveSetPower a b c s).1.rst = s.rst ∧ (serveSetPower a b c s).1.pcu = s.pcu ∧
    (serveSetPower a b c s).1.ttb = s.ttb ∧ (serveSetPower a b c s).1.fetch = s.fetch ∧
    (serveSetPower a b c s).1.ticks = s.ticks ∧ (serveSetPower a b c s).1.resetDue = s.resetDue ∧
    (serveSetPower a b c s).1.freeSeed = s.freeSeed ∧ (serveSetPower a b c s).1.pending = s.pending := by
  unfold serveSetPower; repeat' (first | split | (simp only []; split))
  all_goals simp

@[simp] theorem serveSetSerial_frame (s : State) (n : Nat) (cs : List Byte) :
    (serveSetSerial n cs s).1.testLink = s.testLink ∧ (serveSetSerial n cs s).1.handlerLink = s.handlerLink ∧
    (serveSetSerial n cs s).1.lineLink = s.lineLink ∧ (serveSetSerial n cs s).1.rck = s.rck ∧
    (serveSetSerial n cs s).1.sif = s.sif ∧ (serveSetSerial n cs s).1.psq = s.psq ∧
    (serveSetSerial n cs s).1.qac = s.qac ∧ (serveSetSerial n cs s).1.tau = s.tau ∧
    (serveSetSerial n cs s).1.rst = s.rst ∧ (serveSetSerial n cs s).1.pcu = s.pcu ∧
    (serveSetSerial n cs s).1.ttb = s.ttb ∧ (serveSetSerial n cs s).1.fetch = s.fetch ∧
    (serveSetSerial n cs s).1.ticks = s.ticks ∧ (serveSetSerial n cs s).1.resetDue = s.resetDue ∧
    (serveSetSerial n cs s).1.freeSeed = s.freeSeed ∧ (serveSetSerial n cs s).1.pending = s.pending := by
  unfold serveSetSerial; repeat' (first | split | (simp only []; split))
  all_goals simp

@[simp] theorem serveStart_frame (s : State) (n m : Nat) :
    (serveStart n m s).1.testLink = s.testLink ∧ (serveStart n m s).1.handlerLink = s.handlerLink ∧
    (serveStart n m s).1.lineLink = s.lineLink ∧ (serveStart n m s).1.rck = s.rck ∧
    (serveStart n m s).1.sif = s.sif ∧ (serveStart n m s).1.psq = s.psq ∧ (serveStart n m s).1.slots = s.slots ∧
    (serveStart n m s).1.qac = s.qac ∧ (serveStart n m s).1.tau = s.tau ∧ (serveStart n m s).1.rst = s.rst ∧
    (serveStart n m s).1.pcu = s.pcu ∧ (serveStart n m s).1.ttb = s.ttb ∧ (serveStart n m s).1.mail = s.mail ∧
    (serveStart n m s).1.ticks = s.ticks ∧ (serveStart n m s).1.resetDue = s.resetDue ∧
    (serveStart n m s).1.freeSeed = s.freeSeed ∧ (serveStart n m s).1.pending = s.pending := by
  unfold serveStart; repeat' (first | split | (simp only []; split))
  all_goals simp

@[simp] theorem serveAdvance_frame (s : State) (n : Nat) :
    (serveAdvance n s).1.testLink = s.testLink ∧ (serveAdvance n s).1.handlerLink = s.handlerLink ∧
    (serveAdvance n s).1.lineLink = s.lineLink ∧ (serveAdvance n s).1.sif = s.sif ∧
    (serveAdvance n s).1.psq = s.psq ∧ (serveAdvance n s).1.qac = s.qac ∧ (serveAdvance n s).1.tau = s.tau ∧
    (serveAdvance n s).1.rst = s.rst ∧ (serveAdvance n s).1.pcu = s.pcu ∧ (serveAdvance n s).1.ttb = s.ttb ∧
    (serveAdvance n s).1.ticks = s.ticks ∧ (serveAdvance n s).1.resetDue = s.resetDue ∧
    (serveAdvance n s).1.freeSeed = s.freeSeed ∧ (serveAdvance n s).1.pending = s.pending := by
  unfold serveAdvance; repeat' (first | split | (simp only []; split))
  all_goals simp

@[simp] theorem serveMeasure_frame (s : State) (a b c : Nat) :
    (serveMeasure a b c s).1.testLink = s.testLink ∧ (serveMeasure a b c s).1.handlerLink = s.handlerLink ∧
    (serveMeasure a b c s).1.lineLink = s.lineLink ∧ (serveMeasure a b c s).1.rck = s.rck ∧
    (serveMeasure a b c s).1.sif = s.sif ∧ (serveMeasure a b c s).1.psq = s.psq ∧
    (serveMeasure a b c s).1.qac = s.qac ∧ (serveMeasure a b c s).1.tau = s.tau ∧
    (serveMeasure a b c s).1.rst = s.rst ∧ (serveMeasure a b c s).1.pcu = s.pcu ∧
    (serveMeasure a b c s).1.ttb = s.ttb ∧ (serveMeasure a b c s).1.fetch = s.fetch ∧
    (serveMeasure a b c s).1.ticks = s.ticks ∧ (serveMeasure a b c s).1.resetDue = s.resetDue ∧
    (serveMeasure a b c s).1.freeSeed = s.freeSeed ∧ (serveMeasure a b c s).1.pending = s.pending := by
  unfold serveMeasure; repeat' (first | split | (simp only []; split))
  all_goals simp

@[simp] theorem serveFinish_frame (s : State) (n : Nat) :
    (serveFinish n s).1.testLink = s.testLink ∧ (serveFinish n s).1.handlerLink = s.handlerLink ∧
    (serveFinish n s).1.lineLink = s.lineLink ∧ (serveFinish n s).1.rck = s.rck ∧ (serveFinish n s).1.sif = s.sif ∧
    (serveFinish n s).1.psq = s.psq ∧ (serveFinish n s).1.slots = s.slots ∧ (serveFinish n s).1.qac = s.qac ∧
    (serveFinish n s).1.tau = s.tau ∧ (serveFinish n s).1.rst = s.rst ∧ (serveFinish n s).1.pcu = s.pcu ∧
    (serveFinish n s).1.ttb = s.ttb ∧ (serveFinish n s).1.mail = s.mail ∧ (serveFinish n s).1.ticks = s.ticks ∧
    (serveFinish n s).1.resetDue = s.resetDue ∧ (serveFinish n s).1.freeSeed = s.freeSeed ∧
    (serveFinish n s).1.pending = s.pending := by
  unfold serveFinish; repeat' (first | split | (simp only []; split))
  all_goals simp

@[simp] theorem serveAbort_frame (s : State) (a b : Nat) :
    (serveAbort a b s).1.sif = s.sif ∧ (serveAbort a b s).1.psq = s.psq ∧ (serveAbort a b s).1.qac = s.qac ∧
    (serveAbort a b s).1.tau = s.tau ∧ (serveAbort a b s).1.pcu = s.pcu ∧ (serveAbort a b s).1.fetch = s.fetch ∧
    (serveAbort a b s).1.ticks = s.ticks ∧ (serveAbort a b s).1.resetDue = s.resetDue ∧
    (serveAbort a b s).1.freeSeed = s.freeSeed ∧ (serveAbort a b s).1.pending = s.pending := by
  unfold serveAbort; repeat' (first | split | (simp only []; split))
  all_goals simp

@[simp] theorem serveReadSlot_frame (s : State) (n : Nat) :
    (serveReadSlot n s).1.testLink = s.testLink ∧ (serveReadSlot n s).1.handlerLink = s.handlerLink ∧
    (serveReadSlot n s).1.lineLink = s.lineLink ∧ (serveReadSlot n s).1.rck = s.rck ∧
    (serveReadSlot n s).1.sif = s.sif ∧ (serveReadSlot n s).1.psq = s.psq ∧ (serveReadSlot n s).1.slots = s.slots ∧
    (serveReadSlot n s).1.qac = s.qac ∧ (serveReadSlot n s).1.tau = s.tau ∧ (serveReadSlot n s).1.rst = s.rst ∧
    (serveReadSlot n s).1.pcu = s.pcu ∧ (serveReadSlot n s).1.ttb = s.ttb ∧ (serveReadSlot n s).1.fetch = s.fetch ∧
    (serveReadSlot n s).1.mail = s.mail ∧ (serveReadSlot n s).1.ticks = s.ticks ∧
    (serveReadSlot n s).1.resetDue = s.resetDue ∧ (serveReadSlot n s).1.freeSeed = s.freeSeed ∧
    (serveReadSlot n s).1.pending = s.pending := by
  unfold serveReadSlot; repeat' (first | split | (simp only []; split))
  all_goals simp

@[simp] theorem serveAccessRequest_frame (s : State) (a b : Nat) :
    (serveAccessRequest a b s).1.rck = s.rck ∧ (serveAccessRequest a b s).1.sif = s.sif ∧
    (serveAccessRequest a b s).1.psq = s.psq ∧ (serveAccessRequest a b s).1.slots = s.slots ∧
    (serveAccessRequest a b s).1.tau = s.tau ∧ (serveAccessRequest a b s).1.rst = s.rst ∧
    (serveAccessRequest a b s).1.pcu = s.pcu ∧ (serveAccessRequest a b s).1.ttb = s.ttb ∧
    (serveAccessRequest a b s).1.fetch = s.fetch ∧ (serveAccessRequest a b s).1.ticks = s.ticks ∧
    (serveAccessRequest a b s).1.resetDue = s.resetDue ∧ (serveAccessRequest a b s).1.freeSeed = s.freeSeed ∧
    (serveAccessRequest a b s).1.pending = s.pending := by
  unfold serveAccessRequest; repeat' (first | split | (simp only []; split))
  all_goals simp

@[simp] theorem serveAccessCancel_frame (s : State) (n : Nat) :
    (serveAccessCancel n s).1.testLink = s.testLink ∧ (serveAccessCancel n s).1.handlerLink = s.handlerLink ∧
    (serveAccessCancel n s).1.lineLink = s.lineLink ∧ (serveAccessCancel n s).1.rck = s.rck ∧
    (serveAccessCancel n s).1.sif = s.sif ∧ (serveAccessCancel n s).1.psq = s.psq ∧
    (serveAccessCancel n s).1.slots = s.slots ∧ (serveAccessCancel n s).1.tau = s.tau ∧
    (serveAccessCancel n s).1.rst = s.rst ∧ (serveAccessCancel n s).1.pcu = s.pcu ∧
    (serveAccessCancel n s).1.ttb = s.ttb ∧ (serveAccessCancel n s).1.fetch = s.fetch ∧
    (serveAccessCancel n s).1.ticks = s.ticks ∧ (serveAccessCancel n s).1.resetDue = s.resetDue ∧
    (serveAccessCancel n s).1.freeSeed = s.freeSeed ∧ (serveAccessCancel n s).1.pending = s.pending := by
  unfold serveAccessCancel; repeat' (first | split | (simp only []; split))
  all_goals simp

@[simp] theorem serveAccessDone_frame (s : State) (a b : Nat) :
    (serveAccessDone a b s).1.sif = s.sif ∧ (serveAccessDone a b s).1.psq = s.psq ∧
    (serveAccessDone a b s).1.tau = s.tau ∧ (serveAccessDone a b s).1.pcu = s.pcu ∧
    (serveAccessDone a b s).1.fetch = s.fetch ∧ (serveAccessDone a b s).1.ticks = s.ticks ∧
    (serveAccessDone a b s).1.resetDue = s.resetDue ∧ (serveAccessDone a b s).1.freeSeed = s.freeSeed ∧
    (serveAccessDone a b s).1.pending = s.pending := by
  unfold serveAccessDone; repeat' (first | split | (simp only []; split))
  all_goals simp

@[simp] theorem serveQuiet_frame (s : State) (n : Nat) :
    (serveQuiet n s).1.testLink = s.testLink ∧ (serveQuiet n s).1.handlerLink = s.handlerLink ∧
    (serveQuiet n s).1.lineLink = s.lineLink ∧ (serveQuiet n s).1.rck = s.rck ∧ (serveQuiet n s).1.sif = s.sif ∧
    (serveQuiet n s).1.psq = s.psq ∧ (serveQuiet n s).1.qac = s.qac ∧ (serveQuiet n s).1.tau = s.tau ∧
    (serveQuiet n s).1.rst = s.rst ∧ (serveQuiet n s).1.pcu = s.pcu ∧ (serveQuiet n s).1.ttb = s.ttb ∧
    (serveQuiet n s).1.fetch = s.fetch ∧ (serveQuiet n s).1.ticks = s.ticks ∧
    (serveQuiet n s).1.resetDue = s.resetDue ∧ (serveQuiet n s).1.freeSeed = s.freeSeed ∧
    (serveQuiet n s).1.pending = s.pending := by
  unfold serveQuiet; repeat' (first | split | (simp only []; split))
  all_goals simp

@[simp] theorem serveSetQuiet_frame (s : State) (a b c : Nat) :
    (serveSetQuiet a b c s).1.testLink = s.testLink ∧ (serveSetQuiet a b c s).1.handlerLink = s.handlerLink ∧
    (serveSetQuiet a b c s).1.lineLink = s.lineLink ∧ (serveSetQuiet a b c s).1.rck = s.rck ∧
    (serveSetQuiet a b c s).1.sif = s.sif ∧ (serveSetQuiet a b c s).1.psq = s.psq ∧
    (serveSetQuiet a b c s).1.slots = s.slots ∧ (serveSetQuiet a b c s).1.tau = s.tau ∧
    (serveSetQuiet a b c s).1.rst = s.rst ∧ (serveSetQuiet a b c s).1.pcu = s.pcu ∧
    (serveSetQuiet a b c s).1.ttb = s.ttb ∧ (serveSetQuiet a b c s).1.fetch = s.fetch ∧
    (serveSetQuiet a b c s).1.mail = s.mail ∧ (serveSetQuiet a b c s).1.ticks = s.ticks ∧
    (serveSetQuiet a b c s).1.resetDue = s.resetDue ∧ (serveSetQuiet a b c s).1.freeSeed = s.freeSeed ∧
    (serveSetQuiet a b c s).1.pending = s.pending := by
  unfold serveSetQuiet; repeat' (first | split | (simp only []; split))
  all_goals simp

@[simp] theorem serveSetScan_frame (s : State) (a b : Nat) :
    (serveSetScan a b s).1.testLink = s.testLink ∧ (serveSetScan a b s).1.handlerLink = s.handlerLink ∧
    (serveSetScan a b s).1.lineLink = s.lineLink ∧ (serveSetScan a b s).1.rck = s.rck ∧
    (serveSetScan a b s).1.sif = s.sif ∧ (serveSetScan a b s).1.psq = s.psq ∧
    (serveSetScan a b s).1.slots = s.slots ∧ (serveSetScan a b s).1.qac = s.qac ∧
    (serveSetScan a b s).1.rst = s.rst ∧ (serveSetScan a b s).1.pcu = s.pcu ∧ (serveSetScan a b s).1.ttb = s.ttb ∧
    (serveSetScan a b s).1.fetch = s.fetch ∧ (serveSetScan a b s).1.mail = s.mail ∧
    (serveSetScan a b s).1.ticks = s.ticks ∧ (serveSetScan a b s).1.resetDue = s.resetDue ∧
    (serveSetScan a b s).1.freeSeed = s.freeSeed ∧ (serveSetScan a b s).1.pending = s.pending := by
  unfold serveSetScan; repeat' (first | split | (simp only []; split))
  all_goals simp

@[simp] theorem serveSetProfile_frame (s : State) (a : Nat) (b : Int) (c : Nat) (fs : List Nat) :
    (serveSetProfile a b c fs s).1.testLink = s.testLink ∧
    (serveSetProfile a b c fs s).1.handlerLink = s.handlerLink ∧
    (serveSetProfile a b c fs s).1.lineLink = s.lineLink ∧ (serveSetProfile a b c fs s).1.rck = s.rck ∧
    (serveSetProfile a b c fs s).1.sif = s.sif ∧ (serveSetProfile a b c fs s).1.psq = s.psq ∧
    (serveSetProfile a b c fs s).1.slots = s.slots ∧ (serveSetProfile a b c fs s).1.qac = s.qac ∧
    (serveSetProfile a b c fs s).1.rst = s.rst ∧ (serveSetProfile a b c fs s).1.pcu = s.pcu ∧
    (serveSetProfile a b c fs s).1.ttb = s.ttb ∧ (serveSetProfile a b c fs s).1.fetch = s.fetch ∧
    (serveSetProfile a b c fs s).1.mail = s.mail ∧ (serveSetProfile a b c fs s).1.ticks = s.ticks ∧
    (serveSetProfile a b c fs s).1.resetDue = s.resetDue ∧ (serveSetProfile a b c fs s).1.freeSeed = s.freeSeed ∧
    (serveSetProfile a b c fs s).1.pending = s.pending := by
  unfold serveSetProfile; repeat' (first | split | (simp only []; split))
  all_goals simp

@[simp] theorem serveSetOffset_frame (s : State) (a : Nat) (b : Int) :
    (serveSetOffset a b s).1.testLink = s.testLink ∧ (serveSetOffset a b s).1.handlerLink = s.handlerLink ∧
    (serveSetOffset a b s).1.lineLink = s.lineLink ∧ (serveSetOffset a b s).1.rck = s.rck ∧
    (serveSetOffset a b s).1.sif = s.sif ∧ (serveSetOffset a b s).1.psq = s.psq ∧
    (serveSetOffset a b s).1.slots = s.slots ∧ (serveSetOffset a b s).1.qac = s.qac ∧
    (serveSetOffset a b s).1.rst = s.rst ∧ (serveSetOffset a b s).1.pcu = s.pcu ∧
    (serveSetOffset a b s).1.ttb = s.ttb ∧ (serveSetOffset a b s).1.fetch = s.fetch ∧
    (serveSetOffset a b s).1.mail = s.mail ∧ (serveSetOffset a b s).1.ticks = s.ticks ∧
    (serveSetOffset a b s).1.resetDue = s.resetDue ∧ (serveSetOffset a b s).1.freeSeed = s.freeSeed ∧
    (serveSetOffset a b s).1.pending = s.pending := by
  unfold serveSetOffset; repeat' (first | split | (simp only []; split))
  all_goals simp

@[simp] theorem serveStageHeader_frame (s : State) (a b : Nat) (t : List Byte) (c : Nat) :
    (serveStageHeader a b t c s).1.testLink = s.testLink ∧
    (serveStageHeader a b t c s).1.handlerLink = s.handlerLink ∧
    (serveStageHeader a b t c s).1.lineLink = s.lineLink ∧ (serveStageHeader a b t c s).1.rck = s.rck ∧
    (serveStageHeader a b t c s).1.sif = s.sif ∧ (serveStageHeader a b t c s).1.psq = s.psq ∧
    (serveStageHeader a b t c s).1.slots = s.slots ∧ (serveStageHeader a b t c s).1.qac = s.qac ∧
    (serveStageHeader a b t c s).1.tau = s.tau ∧ (serveStageHeader a b t c s).1.pcu = s.pcu ∧
    (serveStageHeader a b t c s).1.ttb = s.ttb ∧ (serveStageHeader a b t c s).1.fetch = s.fetch ∧
    (serveStageHeader a b t c s).1.mail = s.mail ∧ (serveStageHeader a b t c s).1.ticks = s.ticks ∧
    (serveStageHeader a b t c s).1.resetDue = s.resetDue ∧ (serveStageHeader a b t c s).1.freeSeed = s.freeSeed ∧
    (serveStageHeader a b t c s).1.pending = s.pending := by
  unfold serveStageHeader; repeat' (first | split | (simp only []; split))
  all_goals simp

@[simp] theorem serveStageStep_frame (s : State) (a b c d : Nat) (e : OptArg) (f g : Nat) (h k : OptArg) :
    (serveStageStep a b c d e f g h k s).1.testLink = s.testLink ∧
    (serveStageStep a b c d e f g h k s).1.handlerLink = s.handlerLink ∧
    (serveStageStep a b c d e f g h k s).1.lineLink = s.lineLink ∧
    (serveStageStep a b c d e f g h k s).1.rck = s.rck ∧ (serveStageStep a b c d e f g h k s).1.sif = s.sif ∧
    (serveStageStep a b c d e f g h k s).1.psq = s.psq ∧ (serveStageStep a b c d e f g h k s).1.slots = s.slots ∧
    (serveStageStep a b c d e f g h k s).1.qac = s.qac ∧ (serveStageStep a b c d e f g h k s).1.tau = s.tau ∧
    (serveStageStep a b c d e f g h k s).1.pcu = s.pcu ∧ (serveStageStep a b c d e f g h k s).1.ttb = s.ttb ∧
    (serveStageStep a b c d e f g h k s).1.fetch = s.fetch ∧ (serveStageStep a b c d e f g h k s).1.mail = s.mail ∧
    (serveStageStep a b c d e f g h k s).1.ticks = s.ticks ∧
    (serveStageStep a b c d e f g h k s).1.resetDue = s.resetDue ∧
    (serveStageStep a b c d e f g h k s).1.freeSeed = s.freeSeed ∧
    (serveStageStep a b c d e f g h k s).1.pending = s.pending := by
  unfold serveStageStep; repeat' (first | split | (simp only []; split))
  all_goals simp

@[simp] theorem serveStageLimits_frame (s : State) (a b c d e : Nat) :
    (serveStageLimits a b c d e s).1.testLink = s.testLink ∧
    (serveStageLimits a b c d e s).1.handlerLink = s.handlerLink ∧
    (serveStageLimits a b c d e s).1.lineLink = s.lineLink ∧ (serveStageLimits a b c d e s).1.rck = s.rck ∧
    (serveStageLimits a b c d e s).1.sif = s.sif ∧ (serveStageLimits a b c d e s).1.psq = s.psq ∧
    (serveStageLimits a b c d e s).1.slots = s.slots ∧ (serveStageLimits a b c d e s).1.qac = s.qac ∧
    (serveStageLimits a b c d e s).1.tau = s.tau ∧ (serveStageLimits a b c d e s).1.pcu = s.pcu ∧
    (serveStageLimits a b c d e s).1.ttb = s.ttb ∧ (serveStageLimits a b c d e s).1.fetch = s.fetch ∧
    (serveStageLimits a b c d e s).1.mail = s.mail ∧ (serveStageLimits a b c d e s).1.ticks = s.ticks ∧
    (serveStageLimits a b c d e s).1.resetDue = s.resetDue ∧
    (serveStageLimits a b c d e s).1.freeSeed = s.freeSeed ∧ (serveStageLimits a b c d e s).1.pending = s.pending := by
  unfold serveStageLimits; repeat' (first | split | (simp only []; split))
  all_goals simp

@[simp] theorem serveProgram_frame (s : State) (n : Nat) :
    (serveProgram n s).1.testLink = s.testLink ∧ (serveProgram n s).1.handlerLink = s.handlerLink ∧
    (serveProgram n s).1.lineLink = s.lineLink ∧ (serveProgram n s).1.rck = s.rck ∧
    (serveProgram n s).1.sif = s.sif ∧ (serveProgram n s).1.psq = s.psq ∧ (serveProgram n s).1.slots = s.slots ∧
    (serveProgram n s).1.qac = s.qac ∧ (serveProgram n s).1.tau = s.tau ∧ (serveProgram n s).1.ttb = s.ttb ∧
    (serveProgram n s).1.fetch = s.fetch ∧ (serveProgram n s).1.mail = s.mail ∧
    (serveProgram n s).1.ticks = s.ticks ∧ (serveProgram n s).1.resetDue = s.resetDue ∧
    (serveProgram n s).1.freeSeed = s.freeSeed ∧ (serveProgram n s).1.pending = s.pending := by
  unfold serveProgram; repeat' (first | split | (simp only []; split))
  all_goals simp

@[simp] theorem serveErase_frame (s : State) (n : Nat) :
    (serveErase n s).1.testLink = s.testLink ∧ (serveErase n s).1.handlerLink = s.handlerLink ∧
    (serveErase n s).1.lineLink = s.lineLink ∧ (serveErase n s).1.rck = s.rck ∧ (serveErase n s).1.sif = s.sif ∧
    (serveErase n s).1.psq = s.psq ∧ (serveErase n s).1.slots = s.slots ∧ (serveErase n s).1.qac = s.qac ∧
    (serveErase n s).1.tau = s.tau ∧ (serveErase n s).1.ttb = s.ttb ∧ (serveErase n s).1.fetch = s.fetch ∧
    (serveErase n s).1.mail = s.mail ∧ (serveErase n s).1.ticks = s.ticks ∧
    (serveErase n s).1.resetDue = s.resetDue ∧ (serveErase n s).1.freeSeed = s.freeSeed ∧
    (serveErase n s).1.pending = s.pending := by
  unfold serveErase; repeat' (first | split | (simp only []; split))
  all_goals simp

@[simp] theorem serveBlankCheck_frame (s : State) (n : Nat) :
    (serveBlankCheck n s).1.testLink = s.testLink ∧ (serveBlankCheck n s).1.handlerLink = s.handlerLink ∧
    (serveBlankCheck n s).1.lineLink = s.lineLink ∧ (serveBlankCheck n s).1.rck = s.rck ∧
    (serveBlankCheck n s).1.sif = s.sif ∧ (serveBlankCheck n s).1.psq = s.psq ∧
    (serveBlankCheck n s).1.slots = s.slots ∧ (serveBlankCheck n s).1.qac = s.qac ∧
    (serveBlankCheck n s).1.tau = s.tau ∧ (serveBlankCheck n s).1.ttb = s.ttb ∧
    (serveBlankCheck n s).1.fetch = s.fetch ∧ (serveBlankCheck n s).1.mail = s.mail ∧
    (serveBlankCheck n s).1.ticks = s.ticks ∧ (serveBlankCheck n s).1.resetDue = s.resetDue ∧
    (serveBlankCheck n s).1.freeSeed = s.freeSeed ∧ (serveBlankCheck n s).1.pending = s.pending := by
  unfold serveBlankCheck; repeat' (first | split | (simp only []; split))
  all_goals simp

@[simp] theorem serveLock_frame (s : State) (n : Nat) :
    (serveLock n s).1.testLink = s.testLink ∧ (serveLock n s).1.handlerLink = s.handlerLink ∧
    (serveLock n s).1.lineLink = s.lineLink ∧ (serveLock n s).1.rck = s.rck ∧ (serveLock n s).1.sif = s.sif ∧
    (serveLock n s).1.psq = s.psq ∧ (serveLock n s).1.slots = s.slots ∧ (serveLock n s).1.qac = s.qac ∧
    (serveLock n s).1.tau = s.tau ∧ (serveLock n s).1.pcu = s.pcu ∧ (serveLock n s).1.ttb = s.ttb ∧
    (serveLock n s).1.fetch = s.fetch ∧ (serveLock n s).1.mail = s.mail ∧ (serveLock n s).1.ticks = s.ticks ∧
    (serveLock n s).1.resetDue = s.resetDue ∧ (serveLock n s).1.freeSeed = s.freeSeed ∧
    (serveLock n s).1.pending = s.pending := by
  unfold serveLock; repeat' (first | split | (simp only []; split))
  all_goals simp

@[simp] theorem serveStoreClear_frame (s : State) :
    (serveStoreClear s).1.testLink = s.testLink ∧ (serveStoreClear s).1.handlerLink = s.handlerLink ∧
    (serveStoreClear s).1.lineLink = s.lineLink ∧ (serveStoreClear s).1.rck = s.rck ∧
    (serveStoreClear s).1.sif = s.sif ∧ (serveStoreClear s).1.psq = s.psq ∧ (serveStoreClear s).1.slots = s.slots ∧
    (serveStoreClear s).1.qac = s.qac ∧ (serveStoreClear s).1.tau = s.tau ∧ (serveStoreClear s).1.pcu = s.pcu ∧
    (serveStoreClear s).1.ttb = s.ttb ∧ (serveStoreClear s).1.fetch = s.fetch ∧
    (serveStoreClear s).1.mail = s.mail ∧ (serveStoreClear s).1.ticks = s.ticks ∧
    (serveStoreClear s).1.resetDue = s.resetDue ∧ (serveStoreClear s).1.freeSeed = s.freeSeed ∧
    (serveStoreClear s).1.pending = s.pending := by
  unfold serveStoreClear; repeat' (first | split | (simp only []; split))
  all_goals simp

@[simp] theorem serveLockOverride_frame (s : State) :
    (serveLockOverride s).1.testLink = s.testLink ∧ (serveLockOverride s).1.handlerLink = s.handlerLink ∧
    (serveLockOverride s).1.lineLink = s.lineLink ∧ (serveLockOverride s).1.rck = s.rck ∧
    (serveLockOverride s).1.sif = s.sif ∧ (serveLockOverride s).1.psq = s.psq ∧
    (serveLockOverride s).1.slots = s.slots ∧ (serveLockOverride s).1.qac = s.qac ∧
    (serveLockOverride s).1.tau = s.tau ∧ (serveLockOverride s).1.pcu = s.pcu ∧
    (serveLockOverride s).1.ttb = s.ttb ∧ (serveLockOverride s).1.fetch = s.fetch ∧
    (serveLockOverride s).1.mail = s.mail ∧ (serveLockOverride s).1.ticks = s.ticks ∧
    (serveLockOverride s).1.resetDue = s.resetDue ∧ (serveLockOverride s).1.freeSeed = s.freeSeed ∧
    (serveLockOverride s).1.pending = s.pending := by
  unfold serveLockOverride; repeat' (first | split | (simp only []; split))
  all_goals simp

@[simp] theorem serveSuspend_frame (s : State) :
    (serveSuspend s).1.testLink = s.testLink ∧ (serveSuspend s).1.handlerLink = s.handlerLink ∧
    (serveSuspend s).1.lineLink = s.lineLink ∧ (serveSuspend s).1.rck = s.rck ∧ (serveSuspend s).1.sif = s.sif ∧
    (serveSuspend s).1.psq = s.psq ∧ (serveSuspend s).1.slots = s.slots ∧ (serveSuspend s).1.qac = s.qac ∧
    (serveSuspend s).1.tau = s.tau ∧ (serveSuspend s).1.pcu = s.pcu ∧ (serveSuspend s).1.ttb = s.ttb ∧
    (serveSuspend s).1.fetch = s.fetch ∧ (serveSuspend s).1.mail = s.mail ∧ (serveSuspend s).1.ticks = s.ticks ∧
    (serveSuspend s).1.resetDue = s.resetDue ∧ (serveSuspend s).1.freeSeed = s.freeSeed ∧
    (serveSuspend s).1.pending = s.pending := by
  unfold serveSuspend; repeat' (first | split | (simp only []; split))
  all_goals simp

@[simp] theorem serveResume_frame (s : State) :
    (serveResume s).1.testLink = s.testLink ∧ (serveResume s).1.handlerLink = s.handlerLink ∧
    (serveResume s).1.lineLink = s.lineLink ∧ (serveResume s).1.rck = s.rck ∧ (serveResume s).1.sif = s.sif ∧
    (serveResume s).1.psq = s.psq ∧ (serveResume s).1.slots = s.slots ∧ (serveResume s).1.qac = s.qac ∧
    (serveResume s).1.tau = s.tau ∧ (serveResume s).1.pcu = s.pcu ∧ (serveResume s).1.ttb = s.ttb ∧
    (serveResume s).1.fetch = s.fetch ∧ (serveResume s).1.mail = s.mail ∧ (serveResume s).1.ticks = s.ticks ∧
    (serveResume s).1.resetDue = s.resetDue ∧ (serveResume s).1.freeSeed = s.freeSeed ∧
    (serveResume s).1.pending = s.pending := by
  unfold serveResume; repeat' (first | split | (simp only []; split))
  all_goals simp

@[simp] theorem serveStop_frame (s : State) :
    (serveStop s).1.rck = s.rck ∧ (serveStop s).1.sif = s.sif ∧ (serveStop s).1.psq = s.psq ∧
    (serveStop s).1.slots = s.slots ∧ (serveStop s).1.qac = s.qac ∧ (serveStop s).1.tau = s.tau ∧
    (serveStop s).1.pcu = s.pcu ∧ (serveStop s).1.ttb = s.ttb ∧ (serveStop s).1.mail = s.mail ∧
    (serveStop s).1.ticks = s.ticks ∧ (serveStop s).1.resetDue = s.resetDue ∧
    (serveStop s).1.freeSeed = s.freeSeed ∧ (serveStop s).1.pending = s.pending := by
  unfold serveStop; repeat' (first | split | (simp only []; split))
  all_goals simp

@[simp] theorem serveClearStoreStatus_frame (s : State) :
    (serveClearStoreStatus s).1.testLink = s.testLink ∧ (serveClearStoreStatus s).1.handlerLink = s.handlerLink ∧
    (serveClearStoreStatus s).1.lineLink = s.lineLink ∧ (serveClearStoreStatus s).1.rck = s.rck ∧
    (serveClearStoreStatus s).1.sif = s.sif ∧ (serveClearStoreStatus s).1.psq = s.psq ∧
    (serveClearStoreStatus s).1.slots = s.slots ∧ (serveClearStoreStatus s).1.qac = s.qac ∧
    (serveClearStoreStatus s).1.tau = s.tau ∧ (serveClearStoreStatus s).1.pcu = s.pcu ∧
    (serveClearStoreStatus s).1.ttb = s.ttb ∧ (serveClearStoreStatus s).1.fetch = s.fetch ∧
    (serveClearStoreStatus s).1.mail = s.mail ∧ (serveClearStoreStatus s).1.ticks = s.ticks ∧
    (serveClearStoreStatus s).1.resetDue = s.resetDue ∧ (serveClearStoreStatus s).1.freeSeed = s.freeSeed ∧
    (serveClearStoreStatus s).1.pending = s.pending := by
  unfold serveClearStoreStatus; repeat' (first | split | (simp only []; split))
  all_goals simp

@[simp] theorem serveSetStoreMode_frame (s : State) (n : Nat) :
    (serveSetStoreMode n s).1.testLink = s.testLink ∧ (serveSetStoreMode n s).1.handlerLink = s.handlerLink ∧
    (serveSetStoreMode n s).1.lineLink = s.lineLink ∧ (serveSetStoreMode n s).1.rck = s.rck ∧
    (serveSetStoreMode n s).1.sif = s.sif ∧ (serveSetStoreMode n s).1.psq = s.psq ∧
    (serveSetStoreMode n s).1.slots = s.slots ∧ (serveSetStoreMode n s).1.qac = s.qac ∧
    (serveSetStoreMode n s).1.tau = s.tau ∧ (serveSetStoreMode n s).1.pcu = s.pcu ∧
    (serveSetStoreMode n s).1.ttb = s.ttb ∧ (serveSetStoreMode n s).1.fetch = s.fetch ∧
    (serveSetStoreMode n s).1.mail = s.mail ∧ (serveSetStoreMode n s).1.ticks = s.ticks ∧
    (serveSetStoreMode n s).1.resetDue = s.resetDue ∧ (serveSetStoreMode n s).1.freeSeed = s.freeSeed ∧
    (serveSetStoreMode n s).1.pending = s.pending := by
  unfold serveSetStoreMode; repeat' (first | split | (simp only []; split))
  all_goals simp

@[simp] theorem serveSetFetchPriority_frame (s : State) (n : Nat) :
    (serveSetFetchPriority n s).1.testLink = s.testLink ∧
    (serveSetFetchPriority n s).1.handlerLink = s.handlerLink ∧
    (serveSetFetchPriority n s).1.lineLink = s.lineLink ∧ (serveSetFetchPriority n s).1.rck = s.rck ∧
    (serveSetFetchPriority n s).1.sif = s.sif ∧ (serveSetFetchPriority n s).1.psq = s.psq ∧
    (serveSetFetchPriority n s).1.slots = s.slots ∧ (serveSetFetchPriority n s).1.qac = s.qac ∧
    (serveSetFetchPriority n s).1.tau = s.tau ∧ (serveSetFetchPriority n s).1.pcu = s.pcu ∧
    (serveSetFetchPriority n s).1.ttb = s.ttb ∧ (serveSetFetchPriority n s).1.fetch = s.fetch ∧
    (serveSetFetchPriority n s).1.mail = s.mail ∧ (serveSetFetchPriority n s).1.ticks = s.ticks ∧
    (serveSetFetchPriority n s).1.resetDue = s.resetDue ∧ (serveSetFetchPriority n s).1.freeSeed = s.freeSeed ∧
    (serveSetFetchPriority n s).1.pending = s.pending := by
  unfold serveSetFetchPriority; repeat' (first | split | (simp only []; split))
  all_goals simp

@[simp] theorem serveReadRecipe_frame (s : State) (a b : Nat) :
    (serveReadRecipe a b s).1.testLink = s.testLink ∧ (serveReadRecipe a b s).1.handlerLink = s.handlerLink ∧
    (serveReadRecipe a b s).1.lineLink = s.lineLink ∧ (serveReadRecipe a b s).1.rck = s.rck ∧
    (serveReadRecipe a b s).1.sif = s.sif ∧ (serveReadRecipe a b s).1.psq = s.psq ∧
    (serveReadRecipe a b s).1.slots = s.slots ∧ (serveReadRecipe a b s).1.qac = s.qac ∧
    (serveReadRecipe a b s).1.tau = s.tau ∧ (serveReadRecipe a b s).1.rst = s.rst ∧
    (serveReadRecipe a b s).1.pcu = s.pcu ∧ (serveReadRecipe a b s).1.ttb = s.ttb ∧
    (serveReadRecipe a b s).1.fetch = s.fetch ∧ (serveReadRecipe a b s).1.mail = s.mail ∧
    (serveReadRecipe a b s).1.ticks = s.ticks ∧ (serveReadRecipe a b s).1.resetDue = s.resetDue ∧
    (serveReadRecipe a b s).1.pending = s.pending := by
  unfold serveReadRecipe; repeat' (first | split | (simp only []; split))
  all_goals simp

@[simp] theorem serveReadStore_frame (s : State) :
    (serveReadStore s).1.testLink = s.testLink ∧ (serveReadStore s).1.handlerLink = s.handlerLink ∧
    (serveReadStore s).1.lineLink = s.lineLink ∧ (serveReadStore s).1.rck = s.rck ∧
    (serveReadStore s).1.sif = s.sif ∧ (serveReadStore s).1.psq = s.psq ∧ (serveReadStore s).1.slots = s.slots ∧
    (serveReadStore s).1.qac = s.qac ∧ (serveReadStore s).1.tau = s.tau ∧ (serveReadStore s).1.rst = s.rst ∧
    (serveReadStore s).1.pcu = s.pcu ∧ (serveReadStore s).1.ttb = s.ttb ∧ (serveReadStore s).1.fetch = s.fetch ∧
    (serveReadStore s).1.mail = s.mail ∧ (serveReadStore s).1.ticks = s.ticks ∧
    (serveReadStore s).1.resetDue = s.resetDue ∧ (serveReadStore s).1.freeSeed = s.freeSeed ∧
    (serveReadStore s).1.pending = s.pending := by
  unfold serveReadStore; repeat' (first | split | (simp only []; split))
  all_goals simp

@[simp] theorem servePatchEdit_frame (s : State) :
    (servePatchEdit s).1.testLink = s.testLink ∧ (servePatchEdit s).1.handlerLink = s.handlerLink ∧
    (servePatchEdit s).1.lineLink = s.lineLink ∧ (servePatchEdit s).1.rck = s.rck ∧
    (servePatchEdit s).1.sif = s.sif ∧ (servePatchEdit s).1.psq = s.psq ∧ (servePatchEdit s).1.slots = s.slots ∧
    (servePatchEdit s).1.qac = s.qac ∧ (servePatchEdit s).1.tau = s.tau ∧ (servePatchEdit s).1.rst = s.rst ∧
    (servePatchEdit s).1.ttb = s.ttb ∧ (servePatchEdit s).1.fetch = s.fetch ∧ (servePatchEdit s).1.mail = s.mail ∧
    (servePatchEdit s).1.ticks = s.ticks ∧ (servePatchEdit s).1.resetDue = s.resetDue ∧
    (servePatchEdit s).1.freeSeed = s.freeSeed ∧ (servePatchEdit s).1.pending = s.pending := by
  unfold servePatchEdit; repeat' (first | split | (simp only []; split))
  all_goals simp

@[simp] theorem servePatchSet_frame (s : State) (a b c d e f g : Nat) :
    (servePatchSet a b c d e f g s).1.testLink = s.testLink ∧
    (servePatchSet a b c d e f g s).1.handlerLink = s.handlerLink ∧
    (servePatchSet a b c d e f g s).1.lineLink = s.lineLink ∧ (servePatchSet a b c d e f g s).1.rck = s.rck ∧
    (servePatchSet a b c d e f g s).1.sif = s.sif ∧ (servePatchSet a b c d e f g s).1.psq = s.psq ∧
    (servePatchSet a b c d e f g s).1.slots = s.slots ∧ (servePatchSet a b c d e f g s).1.qac = s.qac ∧
    (servePatchSet a b c d e f g s).1.tau = s.tau ∧ (servePatchSet a b c d e f g s).1.rst = s.rst ∧
    (servePatchSet a b c d e f g s).1.ttb = s.ttb ∧ (servePatchSet a b c d e f g s).1.fetch = s.fetch ∧
    (servePatchSet a b c d e f g s).1.mail = s.mail ∧ (servePatchSet a b c d e f g s).1.ticks = s.ticks ∧
    (servePatchSet a b c d e f g s).1.resetDue = s.resetDue ∧
    (servePatchSet a b c d e f g s).1.freeSeed = s.freeSeed ∧ (servePatchSet a b c d e f g s).1.pending = s.pending := by
  unfold servePatchSet; repeat' (first | split | (simp only []; split))
  all_goals simp

@[simp] theorem servePatchApply_frame (s : State) :
    (servePatchApply s).1.testLink = s.testLink ∧ (servePatchApply s).1.handlerLink = s.handlerLink ∧
    (servePatchApply s).1.lineLink = s.lineLink ∧ (servePatchApply s).1.rck = s.rck ∧
    (servePatchApply s).1.sif = s.sif ∧ (servePatchApply s).1.psq = s.psq ∧ (servePatchApply s).1.slots = s.slots ∧
    (servePatchApply s).1.qac = s.qac ∧ (servePatchApply s).1.tau = s.tau ∧ (servePatchApply s).1.rst = s.rst ∧
    (servePatchApply s).1.ttb = s.ttb ∧ (servePatchApply s).1.fetch = s.fetch ∧
    (servePatchApply s).1.mail = s.mail ∧ (servePatchApply s).1.ticks = s.ticks ∧
    (servePatchApply s).1.resetDue = s.resetDue ∧ (servePatchApply s).1.freeSeed = s.freeSeed ∧
    (servePatchApply s).1.pending = s.pending := by
  unfold servePatchApply; repeat' (first | split | (simp only []; split))
  all_goals simp

@[simp] theorem servePatchWithdraw_frame (s : State) :
    (servePatchWithdraw s).1.testLink = s.testLink ∧ (servePatchWithdraw s).1.handlerLink = s.handlerLink ∧
    (servePatchWithdraw s).1.lineLink = s.lineLink ∧ (servePatchWithdraw s).1.rck = s.rck ∧
    (servePatchWithdraw s).1.sif = s.sif ∧ (servePatchWithdraw s).1.psq = s.psq ∧
    (servePatchWithdraw s).1.slots = s.slots ∧ (servePatchWithdraw s).1.qac = s.qac ∧
    (servePatchWithdraw s).1.tau = s.tau ∧ (servePatchWithdraw s).1.rst = s.rst ∧
    (servePatchWithdraw s).1.ttb = s.ttb ∧ (servePatchWithdraw s).1.fetch = s.fetch ∧
    (servePatchWithdraw s).1.mail = s.mail ∧ (servePatchWithdraw s).1.ticks = s.ticks ∧
    (servePatchWithdraw s).1.resetDue = s.resetDue ∧ (servePatchWithdraw s).1.freeSeed = s.freeSeed ∧
    (servePatchWithdraw s).1.pending = s.pending := by
  unfold servePatchWithdraw; repeat' (first | split | (simp only []; split))
  all_goals simp

@[simp] theorem serveOpenTote_frame (s : State) (a b c : Nat) :
    (serveOpenTote a b c s).1.rck = s.rck ∧ (serveOpenTote a b c s).1.sif = s.sif ∧
    (serveOpenTote a b c s).1.psq = s.psq ∧ (serveOpenTote a b c s).1.qac = s.qac ∧
    (serveOpenTote a b c s).1.tau = s.tau ∧ (serveOpenTote a b c s).1.rst = s.rst ∧
    (serveOpenTote a b c s).1.pcu = s.pcu ∧ (serveOpenTote a b c s).1.fetch = s.fetch ∧
    (serveOpenTote a b c s).1.ticks = s.ticks ∧ (serveOpenTote a b c s).1.resetDue = s.resetDue ∧
    (serveOpenTote a b c s).1.freeSeed = s.freeSeed ∧ (serveOpenTote a b c s).1.pending = s.pending := by
  unfold serveOpenTote; repeat' (first | split | (simp only []; split))
  all_goals simp

@[simp] theorem serveCloseTote_frame (s : State) (n : Nat) :
    (serveCloseTote n s).1.testLink = s.testLink ∧ (serveCloseTote n s).1.handlerLink = s.handlerLink ∧
    (serveCloseTote n s).1.lineLink = s.lineLink ∧ (serveCloseTote n s).1.rck = s.rck ∧
    (serveCloseTote n s).1.sif = s.sif ∧ (serveCloseTote n s).1.psq = s.psq ∧
    (serveCloseTote n s).1.slots = s.slots ∧ (serveCloseTote n s).1.qac = s.qac ∧
    (serveCloseTote n s).1.tau = s.tau ∧ (serveCloseTote n s).1.rst = s.rst ∧ (serveCloseTote n s).1.pcu = s.pcu ∧
    (serveCloseTote n s).1.fetch = s.fetch ∧ (serveCloseTote n s).1.mail = s.mail ∧
    (serveCloseTote n s).1.ticks = s.ticks ∧ (serveCloseTote n s).1.resetDue = s.resetDue ∧
    (serveCloseTote n s).1.freeSeed = s.freeSeed ∧ (serveCloseTote n s).1.pending = s.pending := by
  unfold serveCloseTote; repeat' (first | split | (simp only []; split))
  all_goals simp

@[simp] theorem serveReleaseTote_frame (s : State) (n : Nat) :
    (serveReleaseTote n s).1.testLink = s.testLink ∧ (serveReleaseTote n s).1.handlerLink = s.handlerLink ∧
    (serveReleaseTote n s).1.lineLink = s.lineLink ∧ (serveReleaseTote n s).1.rck = s.rck ∧
    (serveReleaseTote n s).1.sif = s.sif ∧ (serveReleaseTote n s).1.psq = s.psq ∧
    (serveReleaseTote n s).1.slots = s.slots ∧ (serveReleaseTote n s).1.qac = s.qac ∧
    (serveReleaseTote n s).1.tau = s.tau ∧ (serveReleaseTote n s).1.rst = s.rst ∧
    (serveReleaseTote n s).1.pcu = s.pcu ∧ (serveReleaseTote n s).1.fetch = s.fetch ∧
    (serveReleaseTote n s).1.mail = s.mail ∧ (serveReleaseTote n s).1.ticks = s.ticks ∧
    (serveReleaseTote n s).1.resetDue = s.resetDue ∧ (serveReleaseTote n s).1.freeSeed = s.freeSeed ∧
    (serveReleaseTote n s).1.pending = s.pending := by
  unfold serveReleaseTote; repeat' (first | split | (simp only []; split))
  all_goals simp

@[simp] theorem serveReadTote_frame (s : State) (a b : Nat) :
    (serveReadTote a b s).1.testLink = s.testLink ∧ (serveReadTote a b s).1.handlerLink = s.handlerLink ∧
    (serveReadTote a b s).1.lineLink = s.lineLink ∧ (serveReadTote a b s).1.rck = s.rck ∧
    (serveReadTote a b s).1.sif = s.sif ∧ (serveReadTote a b s).1.psq = s.psq ∧
    (serveReadTote a b s).1.slots = s.slots ∧ (serveReadTote a b s).1.qac = s.qac ∧
    (serveReadTote a b s).1.tau = s.tau ∧ (serveReadTote a b s).1.rst = s.rst ∧
    (serveReadTote a b s).1.pcu = s.pcu ∧ (serveReadTote a b s).1.ttb = s.ttb ∧
    (serveReadTote a b s).1.fetch = s.fetch ∧ (serveReadTote a b s).1.mail = s.mail ∧
    (serveReadTote a b s).1.ticks = s.ticks ∧ (serveReadTote a b s).1.resetDue = s.resetDue ∧
    (serveReadTote a b s).1.freeSeed = s.freeSeed ∧ (serveReadTote a b s).1.pending = s.pending := by
  unfold serveReadTote; repeat' (first | split | (simp only []; split))
  all_goals simp

theorem storeRequest_fst (serve : State → State × Reply) (s : State) :
    (storeRequest serve s).1 = (serve s).1 ∨ (storeRequest serve s).1 = (serve s).1.clearOverride := by
  unfold storeRequest; split
  · split <;> simp
  · simp

end Sys2Proof.Machine
end

