-- ==== Sys2Proof/Laws/Access.lean ====
section
/-! SUPPORT. What the grant condition does to an access record (R82, R85, R94), and what TAU has taken of the captures of a slot
before a reading (R111). -/

namespace Sys2Proof.Machine

/-- The target of an access stands in the state its action requires. -/
theorem State.targetStands_iff (s : State) (u : AccessUse) :
    s.targetStands u = true ↔ (s.slot u.target).state = u.action.requires := by
  simp [State.targetStands]

/-- A zone is clear exactly when none of its slots blocks. -/
theorem State.zoneClear_iff (s : State) (zone : List Slot) :
    s.zoneClear zone = true ↔ ∀ j ∈ zone, (s.slot j).exposed = false := by
  simp [State.zoneClear]

/-- The grant condition at a PENDING record: blocked, granted, or ended for its target's sake. -/
theorem State.evaluate_pending (s : State) (r : Fin 2) (u : AccessUse) (h : s.access r = .pending u) :
    s.evaluate r = if s.zoneClear u.zone then if s.targetStands u then s.grant r u else s.endPending r u else s := by
  simp only [State.evaluate, h]

/-- The grant condition at a record that is not PENDING. -/
theorem State.evaluate_other (s : State) (r : Fin 2) (h : ∀ u, s.access r ≠ .pending u) : s.evaluate r = s := by
  unfold State.evaluate
  split
  · exact absurd ‹_› (h _)
  · rfl

/-- A report that waits: it would grant a record whose target has a half-served presence change. -/
theorem State.grantWaits_iff (s : State) (r : Fin 2) (i : Slot) : s.grantWaits r i = true ↔
    ∃ u, s.access r = .pending u ∧ i ∈ u.zone ∧ s.zoneClear u.zone = true ∧ s.targetStands u = true ∧
      (s.mailOf u.target).presenceToSsq ≠ (s.mailOf u.target).presenceToQac := by
  unfold State.grantWaits
  cases s.access r <;> simp [State.halfServed, and_assoc]

/-- After an ended access its record is FREE. -/
@[simp] theorem State.endPending_access (s : State) (r : Fin 2) (u : AccessUse) (h : s.access r = .pending u) :
    (s.endPending r u).access r = .free := by
  simp only [State.endPending, State.freeAccess, h, AccessRecord.use?]
  simp [State.access, State.setAccess]

/-- Captures taken: the slot has no capture report on its way, and its run starts anew if one was. -/
theorem State.takeCaptures_mailOf (s : State) (i : Slot) :
    (s.takeCaptures i).mailOf i = { s.mailOf i with captures := 0 } := by
  unfold State.takeCaptures
  split
  · rename_i h; rw [← h]
  · simp [State.setTemp, State.mailOf, State.setMail]

theorem State.takeCaptures_temp (s : State) (i : Slot) : (s.takeCaptures i).temp i =
    { s.temp i with hot := if (s.mailOf i).captures = 0 then (s.temp i).hot else 0 } := by
  unfold State.takeCaptures
  split <;> rename_i h <;> simp [h, State.temp, State.setTemp]

end Sys2Proof.Machine
end

