-- ==== Sys2Proof/Laws/Commands.lean ====
section
/-! SUPPORT. What each command leaves alone when it answers a next state: one frame lemma for each meaning. -/

namespace Sys2Proof.Machine

/-- The three ways a request goes: it is served, it is refused by its link, or it is answered OVERRUN. -/
theorem State.request_cases (s : State) (l : Link) (c : Instr) (serve : State → State × Reply) :
    s.request l c serve = (serve s).1.settle l c (serve s).2 ∨
    s.request l c serve = s.refuseTaken l (requestCode c) .notPermitted ∨
    s.request l c serve = s.answerUntaken l (requestCode c) .overrun := by
  unfold State.request
  split <;> split <;> simp

theorem State.refuseTaken_rst (s : State) (l : Link) (n : Nat) (k : RespCode) (h : storeCode n = false) :
    (s.refuseTaken l n k).rst = s.rst := by
  unfold State.refuseTaken; simp [h]

theorem storeRequest_frame (serve : State → State × Reply) (s : State) :
    (storeRequest serve s).1.testLink = (serve s).1.testLink ∧ (storeRequest serve s).1.handlerLink = (serve s).1.handlerLink ∧
    (storeRequest serve s).1.lineLink = (serve s).1.lineLink ∧ (storeRequest serve s).1.rck = (serve s).1.rck ∧
    (storeRequest serve s).1.sif = (serve s).1.sif ∧ (storeRequest serve s).1.psq = (serve s).1.psq ∧
    (storeRequest serve s).1.slots = (serve s).1.slots ∧ (storeRequest serve s).1.qac = (serve s).1.qac ∧
    (storeRequest serve s).1.tau = (serve s).1.tau ∧ (storeRequest serve s).1.pcu = (serve s).1.pcu ∧
    (storeRequest serve s).1.ttb = (serve s).1.ttb ∧ (storeRequest serve s).1.fetch = (serve s).1.fetch ∧
    (storeRequest serve s).1.mail = (serve s).1.mail ∧ (storeRequest serve s).1.ticks = (serve s).1.ticks ∧
    (storeRequest serve s).1.resetDue = (serve s).1.resetDue ∧ (storeRequest serve s).1.freeSeed = (serve s).1.freeSeed ∧
    (storeRequest serve s).1.pending = (serve s).1.pending := by
  rcases storeRequest_fst serve s with h | h <;> rw [h] <;> simp

theorem execRequestFrame_frame (s t : State) (link : Link) (bytes : List Byte) (h : execRequestFrame link bytes s = .next t) :
    t.rck = s.rck ∧ t.sif = s.sif ∧ t.psq = s.psq ∧ t.slots = s.slots ∧ t.qac = s.qac ∧ t.tau = s.tau ∧
    t.pcu = s.pcu ∧ t.ttb = s.ttb ∧ t.fetch = s.fetch ∧ t.mail = s.mail ∧ t.ticks = s.ticks ∧
    t.resetDue = s.resetDue ∧ t.freeSeed = s.freeSeed ∧ t.pending = s.pending := by
  simp only [execRequestFrame, Host.Outcome.next.injEq] at h
  subst h
  induction bytes generalizing s with
  | nil => simp
  | cons x xs ih => simpa using ih (s.receive link x)

theorem execLengthFault_frame (s t : State) (link : Link) (length : Byte) (h : execLengthFault link length s = .next t) :
    t.rck = s.rck ∧ t.sif = s.sif ∧ t.psq = s.psq ∧ t.slots = s.slots ∧ t.qac = s.qac ∧ t.tau = s.tau ∧
    t.pcu = s.pcu ∧ t.ttb = s.ttb ∧ t.fetch = s.fetch ∧ t.mail = s.mail ∧ t.ticks = s.ticks ∧
    t.resetDue = s.resetDue ∧ t.freeSeed = s.freeSeed ∧ t.pending = s.pending := by
  unfold execLengthFault at h
  repeat' (split at h)
  all_goals (cases h; simp)

theorem execFrameTimeout_frame (s t : State) (link : Link) (h : execFrameTimeout link s = .next t) :
    t.rck = s.rck ∧ t.sif = s.sif ∧ t.psq = s.psq ∧ t.slots = s.slots ∧ t.qac = s.qac ∧ t.tau = s.tau ∧
    t.rst = s.rst ∧ t.pcu = s.pcu ∧ t.ttb = s.ttb ∧ t.fetch = s.fetch ∧ t.mail = s.mail ∧ t.ticks = s.ticks ∧
    t.resetDue = s.resetDue ∧ t.freeSeed = s.freeSeed ∧ t.pending = s.pending := by
  unfold execFrameTimeout at h
  repeat' (split at h)
  all_goals (cases h; simp)

theorem execResponseSent_frame (s t : State) (link : Link) (h : execResponseSent link s = .next t) :
    t.rck = s.rck ∧ t.sif = s.sif ∧ t.psq = s.psq ∧ t.slots = s.slots ∧ t.qac = s.qac ∧ t.tau = s.tau ∧
    t.rst = s.rst ∧ t.pcu = s.pcu ∧ t.ttb = s.ttb ∧ t.fetch = s.fetch ∧ t.mail = s.mail ∧ t.ticks = s.ticks ∧
    t.freeSeed = s.freeSeed ∧ t.pending = s.pending := by
  unfold execResponseSent at h
  repeat' (split at h)
  all_goals (cases h; simp)

theorem execTakeNotice_frame (s t : State) (link : Link) (h : execTakeNotice link s = .next t) :
    t.rck = s.rck ∧ t.sif = s.sif ∧ t.psq = s.psq ∧ t.slots = s.slots ∧ t.qac = s.qac ∧ t.tau = s.tau ∧
    t.rst = s.rst ∧ t.pcu = s.pcu ∧ t.ttb = s.ttb ∧ t.fetch = s.fetch ∧ t.mail = s.mail ∧ t.ticks = s.ticks ∧
    t.resetDue = s.resetDue ∧ t.freeSeed = s.freeSeed ∧ t.pending = s.pending := by
  simp only [execTakeNotice, Host.Outcome.next.injEq] at h
  have g := serveTakeNotice_frame s link
  rcases State.request_cases s _ _ (serveTakeNotice link) with e | e | e <;> rw [e] at h <;> subst h <;>
    simp_all [State.refuseTaken_rst, requestCode, storeCode]

theorem execSetLevels_frame (s t : State) (link : Link) (entries : List (Nat × Nat)) (h : execSetLevels link entries s = .next t) :
    t.rck = s.rck ∧ t.sif = s.sif ∧ t.psq = s.psq ∧ t.slots = s.slots ∧ t.qac = s.qac ∧ t.tau = s.tau ∧
    t.rst = s.rst ∧ t.pcu = s.pcu ∧ t.ttb = s.ttb ∧ t.fetch = s.fetch ∧ t.mail = s.mail ∧ t.ticks = s.ticks ∧
    t.resetDue = s.resetDue ∧ t.freeSeed = s.freeSeed ∧ t.pending = s.pending := by
  simp only [execSetLevels, Host.Outcome.next.injEq] at h
  have g := serveSetLevels_frame s link entries
  rcases State.request_cases s _ _ (serveSetLevels link entries) with e | e | e <;> rw [e] at h <;> subst h <;>
    simp_all [State.refuseTaken_rst, requestCode, storeCode]

theorem execSetMask_frame (s t : State) (link : Link) (level : Nat) (h : execSetMask link level s = .next t) :
    t.rck = s.rck ∧ t.sif = s.sif ∧ t.psq = s.psq ∧ t.slots = s.slots ∧ t.qac = s.qac ∧ t.tau = s.tau ∧
    t.rst = s.rst ∧ t.pcu = s.pcu ∧ t.ttb = s.ttb ∧ t.fetch = s.fetch ∧ t.mail = s.mail ∧ t.ticks = s.ticks ∧
    t.resetDue = s.resetDue ∧ t.freeSeed = s.freeSeed ∧ t.pending = s.pending := by
  simp only [execSetMask, Host.Outcome.next.injEq] at h
  have g := serveSetMask_frame s link level
  rcases State.request_cases s _ _ (serveSetMask link level) with e | e | e <;> rw [e] at h <;> subst h <;>
    simp_all [State.refuseTaken_rst, requestCode, storeCode]

theorem execReadClock_frame (s t : State) (link : Link) (h : execReadClock link s = .next t) :
    t.rck = s.rck ∧ t.sif = s.sif ∧ t.psq = s.psq ∧ t.slots = s.slots ∧ t.qac = s.qac ∧ t.tau = s.tau ∧
    t.rst = s.rst ∧ t.pcu = s.pcu ∧ t.ttb = s.ttb ∧ t.fetch = s.fetch ∧ t.mail = s.mail ∧ t.ticks = s.ticks ∧
    t.resetDue = s.resetDue ∧ t.freeSeed = s.freeSeed ∧ t.pending = s.pending := by
  simp only [execReadClock, Host.Outcome.next.injEq] at h
  have g := serveReadClock_frame s 
  rcases State.request_cases s _ _ (serveReadClock) with e | e | e <;> rw [e] at h <;> subst h <;>
    simp_all [State.refuseTaken_rst, requestCode, storeCode]

theorem execSetTime_frame (s t : State) (seconds millis : Nat) (h : execSetTime seconds millis s = .next t) :
    t.sif = s.sif ∧ t.psq = s.psq ∧ t.slots = s.slots ∧ t.qac = s.qac ∧ t.tau = s.tau ∧ t.rst = s.rst ∧
    t.pcu = s.pcu ∧ t.ttb = s.ttb ∧ t.fetch = s.fetch ∧ t.ticks = s.ticks ∧ t.resetDue = s.resetDue ∧
    t.freeSeed = s.freeSeed ∧ t.pending = s.pending := by
  simp only [execSetTime, Host.Outcome.next.injEq] at h
  have g := serveSetTime_frame s seconds millis
  rcases State.request_cases s _ _ (serveSetTime seconds millis) with e | e | e <;> rw [e] at h <;> subst h <;>
    simp_all [State.refuseTaken_rst, requestCode, storeCode]

theorem execRackTimeAdvance_frame (s t : State) (h : execRackTimeAdvance s = .next t) :
    t.testLink = s.testLink ∧ t.handlerLink = s.handlerLink ∧ t.lineLink = s.lineLink ∧ t.sif = s.sif ∧
    t.psq = s.psq ∧ t.slots = s.slots ∧ t.qac = s.qac ∧ t.tau = s.tau ∧ t.rst = s.rst ∧ t.pcu = s.pcu ∧
    t.ttb = s.ttb ∧ t.fetch = s.fetch ∧ t.resetDue = s.resetDue ∧ t.freeSeed = s.freeSeed ∧ t.pending = s.pending := by
  unfold execRackTimeAdvance at h
  repeat' (split at h)
  all_goals (cases h; simp)

theorem execDeadlineExpiry_frame (s t : State) (slot : Slot) (h : execDeadlineExpiry slot s = .next t) :
    t.rck = s.rck ∧ t.sif = s.sif ∧ t.psq = s.psq ∧ t.qac = s.qac ∧ t.tau = s.tau ∧ t.rst = s.rst ∧ t.pcu = s.pcu ∧
    t.ttb = s.ttb ∧ t.fetch = s.fetch ∧ t.ticks = s.ticks ∧ t.resetDue = s.resetDue ∧ t.freeSeed = s.freeSeed ∧
    t.pending = s.pending := by
  unfold execDeadlineExpiry at h
  repeat' (split at h)
  all_goals (cases h; simp)

theorem execAccountingTick_frame (s t : State) (h : execAccountingTick s = .next t) :
    t.testLink = s.testLink ∧ t.handlerLink = s.handlerLink ∧ t.lineLink = s.lineLink ∧ t.rck = s.rck ∧
    t.sif = s.sif ∧ t.psq = s.psq ∧ t.slots = s.slots ∧ t.qac = s.qac ∧ t.tau = s.tau ∧ t.rst = s.rst ∧
    t.pcu = s.pcu ∧ t.ttb = s.ttb ∧ t.fetch = s.fetch ∧ t.resetDue = s.resetDue ∧ t.freeSeed = s.freeSeed ∧
    t.pending = s.pending := by
  unfold execAccountingTick at h
  repeat' (split at h)
  all_goals (cases h; simp)

theorem execCreditEvent_frame (s t : State) (slot : Slot) (h : execCreditEvent slot s = .next t) :
    t.rck = s.rck ∧ t.sif = s.sif ∧ t.psq = s.psq ∧ t.qac = s.qac ∧ t.tau = s.tau ∧ t.rst = s.rst ∧ t.pcu = s.pcu ∧
    t.ttb = s.ttb ∧ t.fetch = s.fetch ∧ t.ticks = s.ticks ∧ t.resetDue = s.resetDue ∧ t.freeSeed = s.freeSeed ∧
    t.pending = s.pending := by
  unfold execCreditEvent at h
  repeat' (split at h)
  all_goals (cases h; simp)

theorem execSample_frame (s t : State) (presence latch : BitVec 24) (h : execSample presence latch s = .next t) :
    t.testLink = s.testLink ∧ t.handlerLink = s.handlerLink ∧ t.lineLink = s.lineLink ∧ t.rck = s.rck ∧
    t.psq = s.psq ∧ t.slots = s.slots ∧ t.qac = s.qac ∧ t.tau = s.tau ∧ t.rst = s.rst ∧ t.pcu = s.pcu ∧
    t.ttb = s.ttb ∧ t.fetch = s.fetch ∧ t.ticks = s.ticks ∧ t.resetDue = s.resetDue ∧ t.freeSeed = s.freeSeed ∧
    t.pending = s.pending := by
  unfold execSample at h
  repeat' (split at h)
  all_goals (cases h; simp)

theorem execPresencePresentAtSsq_frame (s t : State) (slot : Slot) (h : execPresencePresentAtSsq slot s = .next t) :
    t.rck = s.rck ∧ t.sif = s.sif ∧ t.psq = s.psq ∧ t.qac = s.qac ∧ t.tau = s.tau ∧ t.rst = s.rst ∧ t.pcu = s.pcu ∧
    t.ttb = s.ttb ∧ t.fetch = s.fetch ∧ t.ticks = s.ticks ∧ t.resetDue = s.resetDue ∧ t.freeSeed = s.freeSeed ∧
    t.pending = s.pending := by
  unfold execPresencePresentAtSsq at h
  repeat' (split at h)
  all_goals (cases h; simp)

theorem execPresenceAbsentAtSsq_frame (s t : State) (slot : Slot) (h : execPresenceAbsentAtSsq slot s = .next t) :
    t.sif = s.sif ∧ t.psq = s.psq ∧ t.qac = s.qac ∧ t.tau = s.tau ∧ t.pcu = s.pcu ∧ t.fetch = s.fetch ∧
    t.ticks = s.ticks ∧ t.resetDue = s.resetDue ∧ t.freeSeed = s.freeSeed ∧ t.pending = s.pending := by
  unfold execPresenceAbsentAtSsq at h
  repeat' (split at h)
  all_goals (cases h; simp)

theorem execLatchOpenAtSsq_frame (s t : State) (slot : Slot) (h : execLatchOpenAtSsq slot s = .next t) :
    t.testLink = s.testLink ∧ t.handlerLink = s.handlerLink ∧ t.lineLink = s.lineLink ∧ t.sif = s.sif ∧
    t.psq = s.psq ∧ t.qac = s.qac ∧ t.tau = s.tau ∧ t.pcu = s.pcu ∧ t.fetch = s.fetch ∧ t.ticks = s.ticks ∧
    t.resetDue = s.resetDue ∧ t.freeSeed = s.freeSeed ∧ t.pending = s.pending := by
  unfold execLatchOpenAtSsq at h
  repeat' (split at h)
  all_goals (cases h; simp)

theorem execLatchClosedAtSsq_frame (s t : State) (slot : Slot) (h : execLatchClosedAtSsq slot s = .next t) :
    t.testLink = s.testLink ∧ t.handlerLink = s.handlerLink ∧ t.lineLink = s.lineLink ∧ t.rck = s.rck ∧
    t.sif = s.sif ∧ t.psq = s.psq ∧ t.qac = s.qac ∧ t.tau = s.tau ∧ t.rst = s.rst ∧ t.pcu = s.pcu ∧ t.ttb = s.ttb ∧
    t.fetch = s.fetch ∧ t.ticks = s.ticks ∧ t.resetDue = s.resetDue ∧ t.freeSeed = s.freeSeed ∧
    t.pending = s.pending := by
  unfold execLatchClosedAtSsq at h
  repeat' (split at h)
  all_goals (cases h; simp)

theorem execPresenceChangeAtQac_frame (s t : State) (slot : Slot) (h : execPresenceChangeAtQac slot s = .next t) :
    t.testLink = s.testLink ∧ t.handlerLink = s.handlerLink ∧ t.lineLink = s.lineLink ∧ t.rck = s.rck ∧
    t.sif = s.sif ∧ t.psq = s.psq ∧ t.slots = s.slots ∧ t.qac = s.qac ∧ t.tau = s.tau ∧ t.rst = s.rst ∧
    t.pcu = s.pcu ∧ t.ttb = s.ttb ∧ t.fetch = s.fetch ∧ t.ticks = s.ticks ∧ t.resetDue = s.resetDue ∧
    t.freeSeed = s.freeSeed ∧ t.pending = s.pending := by
  unfold execPresenceChangeAtQac at h
  repeat' (split at h)
  all_goals (cases h; simp)

theorem execDisturbanceOrder_frame (s t : State) (slot : Slot) (h : execDisturbanceOrder slot s = .next t) :
    t.rck = s.rck ∧ t.sif = s.sif ∧ t.psq = s.psq ∧ t.qac = s.qac ∧ t.tau = s.tau ∧ t.rst = s.rst ∧ t.pcu = s.pcu ∧
    t.ttb = s.ttb ∧ t.fetch = s.fetch ∧ t.ticks = s.ticks ∧ t.resetDue = s.resetDue ∧ t.freeSeed = s.freeSeed ∧
    t.pending = s.pending := by
  unfold execDisturbanceOrder at h
  repeat' (split at h)
  all_goals (cases h; simp)

theorem execSetInputs_frame (s t : State) (interval presencePolarity latchPolarity : Nat) (h : execSetInputs interval presencePolarity latchPolarity s = .next t) :
    t.rck = s.rck ∧ t.psq = s.psq ∧ t.slots = s.slots ∧ t.qac = s.qac ∧ t.tau = s.tau ∧ t.rst = s.rst ∧
    t.pcu = s.pcu ∧ t.ttb = s.ttb ∧ t.fetch = s.fetch ∧ t.mail = s.mail ∧ t.ticks = s.ticks ∧
    t.resetDue = s.resetDue ∧ t.freeSeed = s.freeSeed ∧ t.pending = s.pending := by
  simp only [execSetInputs, Host.Outcome.next.injEq] at h
  have g := serveSetInputs_frame s interval presencePolarity latchPolarity
  rcases State.request_cases s _ _ (serveSetInputs interval presencePolarity latchPolarity) with e | e | e <;> rw [e] at h <;> subst h <;>
    simp_all [State.refuseTaken_rst, requestCode, storeCode]

theorem execPowerOn_frame (s t : State) (slot : Nat) (h : execPowerOn slot s = .next t) :
    t.rck = s.rck ∧ t.sif = s.sif ∧ t.qac = s.qac ∧ t.tau = s.tau ∧ t.rst = s.rst ∧ t.pcu = s.pcu ∧ t.ttb = s.ttb ∧
    t.fetch = s.fetch ∧ t.ticks = s.ticks ∧ t.resetDue = s.resetDue ∧ t.freeSeed = s.freeSeed ∧
    t.pending = s.pending := by
  simp only [execPowerOn, Host.Outcome.next.injEq] at h
  have g := servePowerOn_frame s slot
  rcases State.request_cases s _ _ (servePowerOn slot) with e | e | e <;> rw [e] at h <;> subst h <;>
    simp_all [State.refuseTaken_rst, requestCode, storeCode]

theorem execSpinUpStartReport_frame (s t : State) (slot : Slot) (h : execSpinUpStartReport slot s = .next t) :
    t.testLink = s.testLink ∧ t.handlerLink = s.handlerLink ∧ t.lineLink = s.lineLink ∧ t.rck = s.rck ∧
    t.sif = s.sif ∧ t.psq = s.psq ∧ t.qac = s.qac ∧ t.tau = s.tau ∧ t.rst = s.rst ∧ t.pcu = s.pcu ∧ t.ttb = s.ttb ∧
    t.fetch = s.fetch ∧ t.ticks = s.ticks ∧ t.resetDue = s.resetDue ∧ t.freeSeed = s.freeSeed ∧
    t.pending = s.pending := by
  unfold execSpinUpStartReport at h
  repeat' (split at h)
  all_goals (cases h; simp)

theorem execSpinUpTimerExpiry_frame (s t : State) (slot : Slot) (h : execSpinUpTimerExpiry slot s = .next t) :
    t.testLink = s.testLink ∧ t.handlerLink = s.handlerLink ∧ t.lineLink = s.lineLink ∧ t.rck = s.rck ∧
    t.sif = s.sif ∧ t.slots = s.slots ∧ t.qac = s.qac ∧ t.tau = s.tau ∧ t.rst = s.rst ∧ t.pcu = s.pcu ∧
    t.ttb = s.ttb ∧ t.fetch = s.fetch ∧ t.ticks = s.ticks ∧ t.resetDue = s.resetDue ∧ t.freeSeed = s.freeSeed ∧
    t.pending = s.pending := by
  unfold execSpinUpTimerExpiry at h
  repeat' (split at h)
  all_goals (cases h; simp)

theorem execSpinUpExpiry_frame (s t : State) (slot : Slot) (h : execSpinUpExpiry slot s = .next t) :
    t.rck = s.rck ∧ t.sif = s.sif ∧ t.psq = s.psq ∧ t.qac = s.qac ∧ t.tau = s.tau ∧ t.rst = s.rst ∧ t.pcu = s.pcu ∧
    t.ttb = s.ttb ∧ t.fetch = s.fetch ∧ t.ticks = s.ticks ∧ t.resetDue = s.resetDue ∧ t.freeSeed = s.freeSeed ∧
    t.pending = s.pending := by
  unfold execSpinUpExpiry at h
  repeat' (split at h)
  all_goals (cases h; simp)

theorem execPowerOff_frame (s t : State) (slot : Nat) (h : execPowerOff slot s = .next t) :
    t.rck = s.rck ∧ t.sif = s.sif ∧ t.psq = s.psq ∧ t.slots = s.slots ∧ t.qac = s.qac ∧ t.tau = s.tau ∧
    t.rst = s.rst ∧ t.pcu = s.pcu ∧ t.ttb = s.ttb ∧ t.fetch = s.fetch ∧ t.ticks = s.ticks ∧
    t.resetDue = s.resetDue ∧ t.freeSeed = s.freeSeed ∧ t.pending = s.pending := by
  simp only [execPowerOff, Host.Outcome.next.injEq] at h
  have g := servePowerOff_frame s slot
  rcases State.request_cases s _ _ (servePowerOff slot) with e | e | e <;> rw [e] at h <;> subst h <;>
    simp_all [State.refuseTaken_rst, requestCode, storeCode]

theorem execPowerOffOrder_frame (s t : State) (slot : Slot) (h : execPowerOffOrder slot s = .next t) :
    t.rck = s.rck ∧ t.sif = s.sif ∧ t.qac = s.qac ∧ t.tau = s.tau ∧ t.rst = s.rst ∧ t.pcu = s.pcu ∧ t.ttb = s.ttb ∧
    t.fetch = s.fetch ∧ t.ticks = s.ticks ∧ t.resetDue = s.resetDue ∧ t.freeSeed = s.freeSeed ∧
    t.pending = s.pending := by
  unfold execPowerOffOrder at h
  repeat' (split at h)
  all_goals (cases h; simp)

theorem execSpinDownOrder_frame (s t : State) (slot : Slot) (h : execSpinDownOrder slot s = .next t) :
    t.testLink = s.testLink ∧ t.handlerLink = s.handlerLink ∧ t.lineLink = s.lineLink ∧ t.rck = s.rck ∧
    t.sif = s.sif ∧ t.slots = s.slots ∧ t.qac = s.qac ∧ t.tau = s.tau ∧ t.rst = s.rst ∧ t.pcu = s.pcu ∧
    t.ttb = s.ttb ∧ t.fetch = s.fetch ∧ t.ticks = s.ticks ∧ t.resetDue = s.resetDue ∧ t.freeSeed = s.freeSeed ∧
    t.pending = s.pending := by
  unfold execSpinDownOrder at h
  repeat' (split at h)
  all_goals (cases h; simp)

theorem execReleaseOrder_frame (s t : State) (slot : Slot) (h : execReleaseOrder slot s = .next t) :
    t.testLink = s.testLink ∧ t.handlerLink = s.handlerLink ∧ t.lineLink = s.lineLink ∧ t.rck = s.rck ∧
    t.sif = s.sif ∧ t.slots = s.slots ∧ t.qac = s.qac ∧ t.tau = s.tau ∧ t.rst = s.rst ∧ t.pcu = s.pcu ∧
    t.ttb = s.ttb ∧ t.fetch = s.fetch ∧ t.ticks = s.ticks ∧ t.resetDue = s.resetDue ∧ t.freeSeed = s.freeSeed ∧
    t.pending = s.pending := by
  unfold execReleaseOrder at h
  repeat' (split at h)
  all_goals (cases h; simp)

theorem execSpinDownTimerExpiry_frame (s t : State) (slot : Slot) (h : execSpinDownTimerExpiry slot s = .next t) :
    t.testLink = s.testLink ∧ t.handlerLink = s.handlerLink ∧ t.lineLink = s.lineLink ∧ t.rck = s.rck ∧
    t.sif = s.sif ∧ t.slots = s.slots ∧ t.qac = s.qac ∧ t.tau = s.tau ∧ t.rst = s.rst ∧ t.pcu = s.pcu ∧
    t.ttb = s.ttb ∧ t.fetch = s.fetch ∧ t.ticks = s.ticks ∧ t.resetDue = s.resetDue ∧ t.freeSeed = s.freeSeed ∧
    t.pending = s.pending := by
  unfold execSpinDownTimerExpiry at h
  repeat' (split at h)
  all_goals (cases h; simp)

theorem execSpinDownExpiry_frame (s t : State) (slot : Slot) (h : execSpinDownExpiry slot s = .next t) :
    t.rck = s.rck ∧ t.sif = s.sif ∧ t.psq = s.psq ∧ t.qac = s.qac ∧ t.tau = s.tau ∧ t.rst = s.rst ∧ t.pcu = s.pcu ∧
    t.fetch = s.fetch ∧ t.ticks = s.ticks ∧ t.resetDue = s.resetDue ∧ t.freeSeed = s.freeSeed ∧
    t.pending = s.pending := by
  unfold execSpinDownExpiry at h
  repeat' (split at h)
  all_goals (cases h; simp)

theorem execSetPower_frame (s t : State) (budget upTime downTime : Nat) (h : execSetPower budget upTime downTime s = .next t) :
    t.rck = s.rck ∧ t.sif = s.sif ∧ t.slots = s.slots ∧ t.qac = s.qac ∧ t.tau = s.tau ∧ t.rst = s.rst ∧
    t.pcu = s.pcu ∧ t.ttb = s.ttb ∧ t.fetch = s.fetch ∧ t.ticks = s.ticks ∧ t.resetDue = s.resetDue ∧
    t.freeSeed = s.freeSeed ∧ t.pending = s.pending := by
  simp only [execSetPower, Host.Outcome.next.injEq] at h
  have g := serveSetPower_frame s budget upTime downTime
  rcases State.request_cases s _ _ (serveSetPower budget upTime downTime) with e | e | e <;> rw [e] at h <;> subst h <;>
    simp_all [State.refuseTaken_rst, requestCode, storeCode]

theorem execSetSerial_frame (s t : State) (slot : Nat) (serial : List Byte) (h : execSetSerial slot serial s = .next t) :
    t.rck = s.rck ∧ t.sif = s.sif ∧ t.psq = s.psq ∧ t.qac = s.qac ∧ t.tau = s.tau ∧ t.rst = s.rst ∧ t.pcu = s.pcu ∧
    t.ttb = s.ttb ∧ t.fetch = s.fetch ∧ t.ticks = s.ticks ∧ t.resetDue = s.resetDue ∧ t.freeSeed = s.freeSeed ∧
    t.pending = s.pending := by
  simp only [execSetSerial, Host.Outcome.next.injEq] at h
  have g := serveSetSerial_frame s slot serial
  rcases State.request_cases s _ _ (serveSetSerial slot serial) with e | e | e <;> rw [e] at h <;> subst h <;>
    simp_all [State.refuseTaken_rst, requestCode, storeCode]

theorem execStart_frame (s t : State) (slot recipeId : Nat) (h : execStart slot recipeId s = .next t) :
    t.rck = s.rck ∧ t.sif = s.sif ∧ t.psq = s.psq ∧ t.slots = s.slots ∧ t.qac = s.qac ∧ t.tau = s.tau ∧
    t.rst = s.rst ∧ t.pcu = s.pcu ∧ t.ttb = s.ttb ∧ t.mail = s.mail ∧ t.ticks = s.ticks ∧ t.resetDue = s.resetDue ∧
    t.freeSeed = s.freeSeed ∧ t.pending = s.pending := by
  simp only [execStart, Host.Outcome.next.injEq] at h
  have g := serveStart_frame s slot recipeId
  rcases State.request_cases s _ _ (serveStart slot recipeId) with e | e | e <;> rw [e] at h <;> subst h <;>
    simp_all [State.refuseTaken_rst, requestCode, storeCode]

theorem execStartFetch_frame (s t : State) (h : execStartFetch s = .next t) :
    t.testLink = s.testLink ∧ t.handlerLink = s.handlerLink ∧ t.lineLink = s.lineLink ∧ t.rck = s.rck ∧
    t.sif = s.sif ∧ t.psq = s.psq ∧ t.slots = s.slots ∧ t.qac = s.qac ∧ t.tau = s.tau ∧ t.pcu = s.pcu ∧
    t.ttb = s.ttb ∧ t.mail = s.mail ∧ t.ticks = s.ticks ∧ t.resetDue = s.resetDue ∧ t.freeSeed = s.freeSeed ∧
    t.pending = s.pending := by
  unfold execStartFetch at h
  repeat' (split at h)
  all_goals (cases h; simp)

theorem execStartFetchAnswer_frame (s t : State) (h : execStartFetchAnswer s = .next t) :
    t.sif = s.sif ∧ t.psq = s.psq ∧ t.qac = s.qac ∧ t.tau = s.tau ∧ t.pcu = s.pcu ∧ t.ttb = s.ttb ∧
    t.ticks = s.ticks ∧ t.resetDue = s.resetDue ∧ t.freeSeed = s.freeSeed ∧ t.pending = s.pending := by
  unfold execStartFetchAnswer at h
  repeat' (split at h)
  all_goals (cases h; simp)

theorem execCaptureReport_frame (s t : State) (slot : Slot) (h : execCaptureReport slot s = .next t) :
    t.testLink = s.testLink ∧ t.handlerLink = s.handlerLink ∧ t.lineLink = s.lineLink ∧ t.rck = s.rck ∧
    t.sif = s.sif ∧ t.psq = s.psq ∧ t.slots = s.slots ∧ t.qac = s.qac ∧ t.rst = s.rst ∧ t.pcu = s.pcu ∧
    t.ttb = s.ttb ∧ t.fetch = s.fetch ∧ t.ticks = s.ticks ∧ t.resetDue = s.resetDue ∧ t.freeSeed = s.freeSeed ∧
    t.pending = s.pending := by
  unfold execCaptureReport at h
  repeat' (split at h)
  all_goals (cases h; simp)

theorem execAdvance_frame (s t : State) (slot : Nat) (h : execAdvance slot s = .next t) :
    t.sif = s.sif ∧ t.psq = s.psq ∧ t.qac = s.qac ∧ t.tau = s.tau ∧ t.rst = s.rst ∧ t.pcu = s.pcu ∧ t.ttb = s.ttb ∧
    t.ticks = s.ticks ∧ t.resetDue = s.resetDue ∧ t.freeSeed = s.freeSeed ∧ t.pending = s.pending := by
  simp only [execAdvance, Host.Outcome.next.injEq] at h
  have g := serveAdvance_frame s slot
  rcases State.request_cases s _ _ (serveAdvance slot) with e | e | e <;> rw [e] at h <;> subst h <;>
    simp_all [State.refuseTaken_rst, requestCode, storeCode]

theorem execStageFetch_frame (s t : State) (h : execStageFetch s = .next t) :
    t.testLink = s.testLink ∧ t.handlerLink = s.handlerLink ∧ t.lineLink = s.lineLink ∧ t.rck = s.rck ∧
    t.sif = s.sif ∧ t.psq = s.psq ∧ t.slots = s.slots ∧ t.qac = s.qac ∧ t.tau = s.tau ∧ t.pcu = s.pcu ∧
    t.ttb = s.ttb ∧ t.mail = s.mail ∧ t.ticks = s.ticks ∧ t.resetDue = s.resetDue ∧ t.freeSeed = s.freeSeed ∧
    t.pending = s.pending := by
  unfold execStageFetch at h
  repeat' (split at h)
  all_goals (cases h; simp)

theorem execStageFetchAnswer_frame (s t : State) (h : execStageFetchAnswer s = .next t) :
    t.sif = s.sif ∧ t.psq = s.psq ∧ t.qac = s.qac ∧ t.tau = s.tau ∧ t.rst = s.rst ∧ t.pcu = s.pcu ∧ t.ttb = s.ttb ∧
    t.ticks = s.ticks ∧ t.resetDue = s.resetDue ∧ t.freeSeed = s.freeSeed ∧ t.pending = s.pending := by
  unfold execStageFetchAnswer at h
  repeat' (split at h)
  all_goals (cases h; simp)

theorem execMeasure_frame (s t : State) (slot measureId value : Nat) (h : execMeasure slot measureId value s = .next t) :
    t.rck = s.rck ∧ t.sif = s.sif ∧ t.psq = s.psq ∧ t.qac = s.qac ∧ t.tau = s.tau ∧ t.rst = s.rst ∧ t.pcu = s.pcu ∧
    t.ttb = s.ttb ∧ t.fetch = s.fetch ∧ t.ticks = s.ticks ∧ t.resetDue = s.resetDue ∧ t.freeSeed = s.freeSeed ∧
    t.pending = s.pending := by
  simp only [execMeasure, Host.Outcome.next.injEq] at h
  have g := serveMeasure_frame s slot measureId value
  rcases State.request_cases s _ _ (serveMeasure slot measureId value) with e | e | e <;> rw [e] at h <;> subst h <;>
    simp_all [State.refuseTaken_rst, requestCode, storeCode]

theorem execFinish_frame (s t : State) (slot : Nat) (h : execFinish slot s = .next t) :
    t.rck = s.rck ∧ t.sif = s.sif ∧ t.psq = s.psq ∧ t.slots = s.slots ∧ t.qac = s.qac ∧ t.tau = s.tau ∧
    t.rst = s.rst ∧ t.pcu = s.pcu ∧ t.ttb = s.ttb ∧ t.mail = s.mail ∧ t.ticks = s.ticks ∧ t.resetDue = s.resetDue ∧
    t.freeSeed = s.freeSeed ∧ t.pending = s.pending := by
  simp only [execFinish, Host.Outcome.next.injEq] at h
  have g := serveFinish_frame s slot
  rcases State.request_cases s _ _ (serveFinish slot) with e | e | e <;> rw [e] at h <;> subst h <;>
    simp_all [State.refuseTaken_rst, requestCode, storeCode]

theorem execLimitsFetch_frame (s t : State) (h : execLimitsFetch s = .next t) :
    t.testLink = s.testLink ∧ t.handlerLink = s.handlerLink ∧ t.lineLink = s.lineLink ∧ t.rck = s.rck ∧
    t.sif = s.sif ∧ t.psq = s.psq ∧ t.slots = s.slots ∧ t.qac = s.qac ∧ t.tau = s.tau ∧ t.pcu = s.pcu ∧
    t.ttb = s.ttb ∧ t.mail = s.mail ∧ t.ticks = s.ticks ∧ t.resetDue = s.resetDue ∧ t.freeSeed = s.freeSeed ∧
    t.pending = s.pending := by
  unfold execLimitsFetch at h
  repeat' (split at h)
  all_goals (cases h; simp)

theorem execLimitsFetchAnswer_frame (s t : State) (h : execLimitsFetchAnswer s = .next t) :
    t.sif = s.sif ∧ t.psq = s.psq ∧ t.qac = s.qac ∧ t.tau = s.tau ∧ t.pcu = s.pcu ∧ t.ticks = s.ticks ∧
    t.resetDue = s.resetDue ∧ t.freeSeed = s.freeSeed ∧ t.pending = s.pending := by
  unfold execLimitsFetchAnswer at h
  repeat' (split at h)
  all_goals (cases h; simp)

theorem execAbort_frame (s t : State) (slot reason : Nat) (h : execAbort slot reason s = .next t) :
    t.sif = s.sif ∧ t.psq = s.psq ∧ t.qac = s.qac ∧ t.tau = s.tau ∧ t.pcu = s.pcu ∧ t.fetch = s.fetch ∧
    t.ticks = s.ticks ∧ t.resetDue = s.resetDue ∧ t.freeSeed = s.freeSeed ∧ t.pending = s.pending := by
  simp only [execAbort, Host.Outcome.next.injEq] at h
  have g := serveAbort_frame s slot reason
  rcases State.request_cases s _ _ (serveAbort slot reason) with e | e | e <;> rw [e] at h <;> subst h <;>
    simp_all [State.refuseTaken_rst, requestCode, storeCode]

theorem execReadSlot_frame (s t : State) (link : Link) (slot : Nat) (h : execReadSlot link slot s = .next t) :
    t.rck = s.rck ∧ t.sif = s.sif ∧ t.psq = s.psq ∧ t.slots = s.slots ∧ t.qac = s.qac ∧ t.tau = s.tau ∧
    t.rst = s.rst ∧ t.pcu = s.pcu ∧ t.ttb = s.ttb ∧ t.fetch = s.fetch ∧ t.mail = s.mail ∧ t.ticks = s.ticks ∧
    t.resetDue = s.resetDue ∧ t.freeSeed = s.freeSeed ∧ t.pending = s.pending := by
  simp only [execReadSlot, Host.Outcome.next.injEq] at h
  have g := serveReadSlot_frame s slot
  rcases State.request_cases s _ _ (serveReadSlot slot) with e | e | e <;> rw [e] at h <;> subst h <;>
    simp_all [State.refuseTaken_rst, requestCode, storeCode]

theorem execOvertempEvent_frame (s t : State) (slot : Slot) (h : execOvertempEvent slot s = .next t) :
    t.sif = s.sif ∧ t.psq = s.psq ∧ t.qac = s.qac ∧ t.tau = s.tau ∧ t.pcu = s.pcu ∧ t.fetch = s.fetch ∧
    t.ticks = s.ticks ∧ t.resetDue = s.resetDue ∧ t.freeSeed = s.freeSeed ∧ t.pending = s.pending := by
  unfold execOvertempEvent at h
  repeat' (split at h)
  all_goals (cases h; simp)

theorem execAccessRequest_frame (s t : State) (slot action : Nat) (h : execAccessRequest slot action s = .next t) :
    t.rck = s.rck ∧ t.sif = s.sif ∧ t.psq = s.psq ∧ t.slots = s.slots ∧ t.tau = s.tau ∧ t.rst = s.rst ∧
    t.pcu = s.pcu ∧ t.ttb = s.ttb ∧ t.fetch = s.fetch ∧ t.ticks = s.ticks ∧ t.resetDue = s.resetDue ∧
    t.freeSeed = s.freeSeed ∧ t.pending = s.pending := by
  simp only [execAccessRequest, Host.Outcome.next.injEq] at h
  have g := serveAccessRequest_frame s slot action
  rcases State.request_cases s _ _ (serveAccessRequest slot action) with e | e | e <;> rw [e] at h <;> subst h <;>
    simp_all [State.refuseTaken_rst, requestCode, storeCode]

theorem execAskOrder_frame (s t : State) (slot : Slot) (h : execAskOrder slot s = .next t) :
    t.rck = s.rck ∧ t.sif = s.sif ∧ t.psq = s.psq ∧ t.qac = s.qac ∧ t.tau = s.tau ∧ t.rst = s.rst ∧ t.pcu = s.pcu ∧
    t.ttb = s.ttb ∧ t.fetch = s.fetch ∧ t.ticks = s.ticks ∧ t.resetDue = s.resetDue ∧ t.freeSeed = s.freeSeed ∧
    t.pending = s.pending := by
  unfold execAskOrder at h
  repeat' (split at h)
  all_goals (cases h; simp)

theorem execQuiet_frame (s t : State) (slot : Nat) (h : execQuiet slot s = .next t) :
    t.rck = s.rck ∧ t.sif = s.sif ∧ t.psq = s.psq ∧ t.qac = s.qac ∧ t.tau = s.tau ∧ t.rst = s.rst ∧ t.pcu = s.pcu ∧
    t.ttb = s.ttb ∧ t.fetch = s.fetch ∧ t.ticks = s.ticks ∧ t.resetDue = s.resetDue ∧ t.freeSeed = s.freeSeed ∧
    t.pending = s.pending := by
  simp only [execQuiet, Host.Outcome.next.injEq] at h
  have g := serveQuiet_frame s slot
  rcases State.request_cases s _ _ (serveQuiet slot) with e | e | e <;> rw [e] at h <;> subst h <;>
    simp_all [State.refuseTaken_rst, requestCode, storeCode]

theorem execSlotChangeReport_frame (s t : State) (slot : Slot) (h : execSlotChangeReport slot s = .next t) :
    t.rck = s.rck ∧ t.sif = s.sif ∧ t.psq = s.psq ∧ t.slots = s.slots ∧ t.tau = s.tau ∧ t.rst = s.rst ∧
    t.pcu = s.pcu ∧ t.ttb = s.ttb ∧ t.fetch = s.fetch ∧ t.ticks = s.ticks ∧ t.resetDue = s.resetDue ∧
    t.freeSeed = s.freeSeed ∧ t.pending = s.pending := by
  unfold execSlotChangeReport at h
  repeat' (split at h)
  all_goals (cases h; simp)

theorem execQuietTimeoutExpiry_frame (s t : State) (record : Fin 2) (h : execQuietTimeoutExpiry record s = .next t) :
    t.rck = s.rck ∧ t.sif = s.sif ∧ t.psq = s.psq ∧ t.slots = s.slots ∧ t.tau = s.tau ∧ t.rst = s.rst ∧
    t.pcu = s.pcu ∧ t.ttb = s.ttb ∧ t.fetch = s.fetch ∧ t.ticks = s.ticks ∧ t.resetDue = s.resetDue ∧
    t.freeSeed = s.freeSeed ∧ t.pending = s.pending := by
  unfold execQuietTimeoutExpiry at h
  repeat' (split at h)
  all_goals (cases h; simp)

theorem execHoldLimitExpiry_frame (s t : State) (record : Fin 2) (h : execHoldLimitExpiry record s = .next t) :
    t.rck = s.rck ∧ t.sif = s.sif ∧ t.psq = s.psq ∧ t.slots = s.slots ∧ t.tau = s.tau ∧ t.rst = s.rst ∧
    t.pcu = s.pcu ∧ t.ttb = s.ttb ∧ t.fetch = s.fetch ∧ t.mail = s.mail ∧ t.ticks = s.ticks ∧
    t.resetDue = s.resetDue ∧ t.freeSeed = s.freeSeed ∧ t.pending = s.pending := by
  unfold execHoldLimitExpiry at h
  repeat' (split at h)
  all_goals (cases h; simp)

theorem execAccessCancel_frame (s t : State) (record : Nat) (h : execAccessCancel record s = .next t) :
    t.rck = s.rck ∧ t.sif = s.sif ∧ t.psq = s.psq ∧ t.slots = s.slots ∧ t.tau = s.tau ∧ t.rst = s.rst ∧
    t.pcu = s.pcu ∧ t.ttb = s.ttb ∧ t.fetch = s.fetch ∧ t.ticks = s.ticks ∧ t.resetDue = s.resetDue ∧
    t.freeSeed = s.freeSeed ∧ t.pending = s.pending := by
  simp only [execAccessCancel, Host.Outcome.next.injEq] at h
  have g := serveAccessCancel_frame s record
  rcases State.request_cases s _ _ (serveAccessCancel record) with e | e | e <;> rw [e] at h <;> subst h <;>
    simp_all [State.refuseTaken_rst, requestCode, storeCode]

theorem execAccessDone_frame (s t : State) (record outcome : Nat) (h : execAccessDone record outcome s = .next t) :
    t.sif = s.sif ∧ t.psq = s.psq ∧ t.tau = s.tau ∧ t.pcu = s.pcu ∧ t.fetch = s.fetch ∧ t.ticks = s.ticks ∧
    t.resetDue = s.resetDue ∧ t.freeSeed = s.freeSeed ∧ t.pending = s.pending := by
  simp only [execAccessDone, Host.Outcome.next.injEq] at h
  have g := serveAccessDone_frame s record outcome
  rcases State.request_cases s _ _ (serveAccessDone record outcome) with e | e | e <;> rw [e] at h <;> subst h <;>
    simp_all [State.refuseTaken_rst, requestCode, storeCode]

theorem execReleaseQuietOrder_frame (s t : State) (slot : Slot) (h : execReleaseQuietOrder slot s = .next t) :
    t.rck = s.rck ∧ t.sif = s.sif ∧ t.psq = s.psq ∧ t.qac = s.qac ∧ t.tau = s.tau ∧ t.rst = s.rst ∧ t.pcu = s.pcu ∧
    t.ttb = s.ttb ∧ t.fetch = s.fetch ∧ t.ticks = s.ticks ∧ t.resetDue = s.resetDue ∧ t.freeSeed = s.freeSeed ∧
    t.pending = s.pending := by
  unfold execReleaseQuietOrder at h
  repeat' (split at h)
  all_goals (cases h; simp)

theorem execSetQuiet_frame (s t : State) (mode timeout limit : Nat) (h : execSetQuiet mode timeout limit s = .next t) :
    t.rck = s.rck ∧ t.sif = s.sif ∧ t.psq = s.psq ∧ t.slots = s.slots ∧ t.tau = s.tau ∧ t.rst = s.rst ∧
    t.pcu = s.pcu ∧ t.ttb = s.ttb ∧ t.fetch = s.fetch ∧ t.mail = s.mail ∧ t.ticks = s.ticks ∧
    t.resetDue = s.resetDue ∧ t.freeSeed = s.freeSeed ∧ t.pending = s.pending := by
  simp only [execSetQuiet, Host.Outcome.next.injEq] at h
  have g := serveSetQuiet_frame s mode timeout limit
  rcases State.request_cases s _ _ (serveSetQuiet mode timeout limit) with e | e | e <;> rw [e] at h <;> subst h <;>
    simp_all [State.refuseTaken_rst, requestCode, storeCode]

theorem execScanStart_frame (s t : State) (h : execScanStart s = .next t) :
    t.testLink = s.testLink ∧ t.handlerLink = s.handlerLink ∧ t.lineLink = s.lineLink ∧ t.rck = s.rck ∧
    t.sif = s.sif ∧ t.psq = s.psq ∧ t.slots = s.slots ∧ t.qac = s.qac ∧ t.rst = s.rst ∧ t.pcu = s.pcu ∧
    t.ttb = s.ttb ∧ t.fetch = s.fetch ∧ t.mail = s.mail ∧ t.ticks = s.ticks ∧ t.resetDue = s.resetDue ∧
    t.freeSeed = s.freeSeed ∧ t.pending = s.pending := by
  unfold execScanStart at h
  repeat' (split at h)
  all_goals (cases h; simp)

theorem execSensorReading_frame (s t : State) (reply : Option SensorReply) (h : execSensorReading reply s = .next t) :
    t.rck = s.rck ∧ t.sif = s.sif ∧ t.psq = s.psq ∧ t.slots = s.slots ∧ t.qac = s.qac ∧ t.rst = s.rst ∧
    t.pcu = s.pcu ∧ t.ttb = s.ttb ∧ t.fetch = s.fetch ∧ t.ticks = s.ticks ∧ t.resetDue = s.resetDue ∧
    t.freeSeed = s.freeSeed ∧ t.pending = s.pending := by
  unfold execSensorReading at h
  repeat' (split at h)
  all_goals (cases h; simp)

theorem execSetScan_frame (s t : State) (period weight : Nat) (h : execSetScan period weight s = .next t) :
    t.rck = s.rck ∧ t.sif = s.sif ∧ t.psq = s.psq ∧ t.slots = s.slots ∧ t.qac = s.qac ∧ t.rst = s.rst ∧
    t.pcu = s.pcu ∧ t.ttb = s.ttb ∧ t.fetch = s.fetch ∧ t.mail = s.mail ∧ t.ticks = s.ticks ∧
    t.resetDue = s.resetDue ∧ t.freeSeed = s.freeSeed ∧ t.pending = s.pending := by
  simp only [execSetScan, Host.Outcome.next.injEq] at h
  have g := serveSetScan_frame s period weight
  rcases State.request_cases s _ _ (serveSetScan period weight) with e | e | e <;> rw [e] at h <;> subst h <;>
    simp_all [State.refuseTaken_rst, requestCode, storeCode]

theorem execSetProfile_frame (s t : State) (profile : Nat) (base : Int) (width : Nat) (factors : List Nat) (h : execSetProfile profile base width factors s = .next t) :
    t.rck = s.rck ∧ t.sif = s.sif ∧ t.psq = s.psq ∧ t.slots = s.slots ∧ t.qac = s.qac ∧ t.rst = s.rst ∧
    t.pcu = s.pcu ∧ t.ttb = s.ttb ∧ t.fetch = s.fetch ∧ t.mail = s.mail ∧ t.ticks = s.ticks ∧
    t.resetDue = s.resetDue ∧ t.freeSeed = s.freeSeed ∧ t.pending = s.pending := by
  simp only [execSetProfile, Host.Outcome.next.injEq] at h
  have g := serveSetProfile_frame s profile base width factors
  rcases State.request_cases s _ _ (serveSetProfile profile base width factors) with e | e | e <;> rw [e] at h <;> subst h <;>
    simp_all [State.refuseTaken_rst, requestCode, storeCode]

theorem execSetOffset_frame (s t : State) (slot : Nat) (offset : Int) (h : execSetOffset slot offset s = .next t) :
    t.rck = s.rck ∧ t.sif = s.sif ∧ t.psq = s.psq ∧ t.slots = s.slots ∧ t.qac = s.qac ∧ t.rst = s.rst ∧
    t.pcu = s.pcu ∧ t.ttb = s.ttb ∧ t.fetch = s.fetch ∧ t.mail = s.mail ∧ t.ticks = s.ticks ∧
    t.resetDue = s.resetDue ∧ t.freeSeed = s.freeSeed ∧ t.pending = s.pending := by
  simp only [execSetOffset, Host.Outcome.next.injEq] at h
  have g := serveSetOffset_frame s slot offset
  rcases State.request_cases s _ _ (serveSetOffset slot offset) with e | e | e <;> rw [e] at h <;> subst h <;>
    simp_all [State.refuseTaken_rst, requestCode, storeCode]

theorem execStageHeader_frame (s t : State) (recipeId revision : Nat) (tag : List Byte) (minCredit : Nat) (h : execStageHeader recipeId revision tag minCredit s = .next t) :
    t.rck = s.rck ∧ t.sif = s.sif ∧ t.psq = s.psq ∧ t.slots = s.slots ∧ t.qac = s.qac ∧ t.tau = s.tau ∧
    t.pcu = s.pcu ∧ t.ttb = s.ttb ∧ t.fetch = s.fetch ∧ t.mail = s.mail ∧ t.ticks = s.ticks ∧
    t.resetDue = s.resetDue ∧ t.freeSeed = s.freeSeed ∧ t.pending = s.pending := by
  simp only [execStageHeader, Host.Outcome.next.injEq] at h
  have f := storeRequest_frame (serveStageHeader recipeId revision tag minCredit) s
  have g := serveStageHeader_frame s recipeId revision tag minCredit
  rcases State.request_cases s _ _ (storeRequest (serveStageHeader recipeId revision tag minCredit)) with e | e | e <;> rw [e] at h <;> subst h <;> simp_all

theorem execStageStep_frame (s t : State) (index kind sensitive suspendable : Nat) (target : OptArg) (mode profile : Nat) (limit maxTemp : OptArg) (h : execStageStep index kind sensitive suspendable target mode profile limit maxTemp s = .next t) :
    t.rck = s.rck ∧ t.sif = s.sif ∧ t.psq = s.psq ∧ t.slots = s.slots ∧ t.qac = s.qac ∧ t.tau = s.tau ∧
    t.pcu = s.pcu ∧ t.ttb = s.ttb ∧ t.fetch = s.fetch ∧ t.mail = s.mail ∧ t.ticks = s.ticks ∧
    t.resetDue = s.resetDue ∧ t.freeSeed = s.freeSeed ∧ t.pending = s.pending := by
  simp only [execStageStep, Host.Outcome.next.injEq] at h
  have f := storeRequest_frame (serveStageStep index kind sensitive suspendable target mode profile limit maxTemp) s
  have g := serveStageStep_frame s index kind sensitive suspendable target mode profile limit maxTemp
  rcases State.request_cases s _ _ (storeRequest (serveStageStep index kind sensitive suspendable target mode profile limit maxTemp)) with e | e | e <;> rw [e] at h <;> subst h <;> simp_all

theorem execStageLimits_frame (s t : State) (measureId a b r required : Nat) (h : execStageLimits measureId a b r required s = .next t) :
    t.rck = s.rck ∧ t.sif = s.sif ∧ t.psq = s.psq ∧ t.slots = s.slots ∧ t.qac = s.qac ∧ t.tau = s.tau ∧
    t.pcu = s.pcu ∧ t.ttb = s.ttb ∧ t.fetch = s.fetch ∧ t.mail = s.mail ∧ t.ticks = s.ticks ∧
    t.resetDue = s.resetDue ∧ t.freeSeed = s.freeSeed ∧ t.pending = s.pending := by
  simp only [execStageLimits, Host.Outcome.next.injEq] at h
  have f := storeRequest_frame (serveStageLimits measureId a b r required) s
  have g := serveStageLimits_frame s measureId a b r required
  rcases State.request_cases s _ _ (storeRequest (serveStageLimits measureId a b r required)) with e | e | e <;> rw [e] at h <;> subst h <;> simp_all

theorem execProgram_frame (s t : State) (block : Nat) (h : execProgram block s = .next t) :
    t.rck = s.rck ∧ t.sif = s.sif ∧ t.psq = s.psq ∧ t.slots = s.slots ∧ t.qac = s.qac ∧ t.tau = s.tau ∧
    t.ttb = s.ttb ∧ t.fetch = s.fetch ∧ t.mail = s.mail ∧ t.ticks = s.ticks ∧ t.resetDue = s.resetDue ∧
    t.freeSeed = s.freeSeed ∧ t.pending = s.pending := by
  simp only [execProgram, Host.Outcome.next.injEq] at h
  have f := storeRequest_frame (serveProgram block) s
  have g := serveProgram_frame s block
  rcases State.request_cases s _ _ (storeRequest (serveProgram block)) with e | e | e <;> rw [e] at h <;> subst h <;> simp_all

theorem execProgramCompletion_frame (s t : State) (success : Bool) (h : execProgramCompletion success s = .next t) :
    t.rck = s.rck ∧ t.sif = s.sif ∧ t.psq = s.psq ∧ t.slots = s.slots ∧ t.qac = s.qac ∧ t.tau = s.tau ∧
    t.pcu = s.pcu ∧ t.ttb = s.ttb ∧ t.mail = s.mail ∧ t.ticks = s.ticks ∧ t.resetDue = s.resetDue ∧
    t.freeSeed = s.freeSeed ∧ t.pending = s.pending := by
  unfold execProgramCompletion at h
  repeat' (split at h)
  all_goals (cases h; simp)

theorem execErase_frame (s t : State) (block : Nat) (h : execErase block s = .next t) :
    t.rck = s.rck ∧ t.sif = s.sif ∧ t.psq = s.psq ∧ t.slots = s.slots ∧ t.qac = s.qac ∧ t.tau = s.tau ∧
    t.ttb = s.ttb ∧ t.fetch = s.fetch ∧ t.mail = s.mail ∧ t.ticks = s.ticks ∧ t.resetDue = s.resetDue ∧
    t.freeSeed = s.freeSeed ∧ t.pending = s.pending := by
  simp only [execErase, Host.Outcome.next.injEq] at h
  have f := storeRequest_frame (serveErase block) s
  have g := serveErase_frame s block
  rcases State.request_cases s _ _ (storeRequest (serveErase block)) with e | e | e <;> rw [e] at h <;> subst h <;> simp_all

theorem execEraseCompletion_frame (s t : State) (success : Bool) (h : execEraseCompletion success s = .next t) :
    t.rck = s.rck ∧ t.sif = s.sif ∧ t.psq = s.psq ∧ t.slots = s.slots ∧ t.qac = s.qac ∧ t.tau = s.tau ∧
    t.pcu = s.pcu ∧ t.ttb = s.ttb ∧ t.mail = s.mail ∧ t.ticks = s.ticks ∧ t.resetDue = s.resetDue ∧
    t.freeSeed = s.freeSeed ∧ t.pending = s.pending := by
  unfold execEraseCompletion at h
  repeat' (split at h)
  all_goals (cases h; simp)

theorem execBlankCheck_frame (s t : State) (block : Nat) (h : execBlankCheck block s = .next t) :
    t.rck = s.rck ∧ t.sif = s.sif ∧ t.psq = s.psq ∧ t.slots = s.slots ∧ t.qac = s.qac ∧ t.tau = s.tau ∧
    t.ttb = s.ttb ∧ t.fetch = s.fetch ∧ t.mail = s.mail ∧ t.ticks = s.ticks ∧ t.resetDue = s.resetDue ∧
    t.freeSeed = s.freeSeed ∧ t.pending = s.pending := by
  simp only [execBlankCheck, Host.Outcome.next.injEq] at h
  have f := storeRequest_frame (serveBlankCheck block) s
  have g := serveBlankCheck_frame s block
  rcases State.request_cases s _ _ (storeRequest (serveBlankCheck block)) with e | e | e <;> rw [e] at h <;> subst h <;> simp_all

theorem execBlankCheckCompletion_frame (s t : State) (erased : Bool) (h : execBlankCheckCompletion erased s = .next t) :
    t.rck = s.rck ∧ t.sif = s.sif ∧ t.psq = s.psq ∧ t.slots = s.slots ∧ t.qac = s.qac ∧ t.tau = s.tau ∧
    t.pcu = s.pcu ∧ t.ttb = s.ttb ∧ t.mail = s.mail ∧ t.ticks = s.ticks ∧ t.resetDue = s.resetDue ∧
    t.freeSeed = s.freeSeed ∧ t.pending = s.pending := by
  unfold execBlankCheckCompletion at h
  repeat' (split at h)
  all_goals (cases h; simp)

theorem execLock_frame (s t : State) (block : Nat) (h : execLock block s = .next t) :
    t.rck = s.rck ∧ t.sif = s.sif ∧ t.psq = s.psq ∧ t.slots = s.slots ∧ t.qac = s.qac ∧ t.tau = s.tau ∧
    t.pcu = s.pcu ∧ t.ttb = s.ttb ∧ t.fetch = s.fetch ∧ t.mail = s.mail ∧ t.ticks = s.ticks ∧
    t.resetDue = s.resetDue ∧ t.freeSeed = s.freeSeed ∧ t.pending = s.pending := by
  simp only [execLock, Host.Outcome.next.injEq] at h
  have f := storeRequest_frame (serveLock block) s
  have g := serveLock_frame s block
  rcases State.request_cases s _ _ (storeRequest (serveLock block)) with e | e | e <;> rw [e] at h <;> subst h <;> simp_all

theorem execLockCompletion_frame (s t : State) (h : execLockCompletion s = .next t) :
    t.rck = s.rck ∧ t.sif = s.sif ∧ t.psq = s.psq ∧ t.slots = s.slots ∧ t.qac = s.qac ∧ t.tau = s.tau ∧
    t.pcu = s.pcu ∧ t.ttb = s.ttb ∧ t.mail = s.mail ∧ t.ticks = s.ticks ∧ t.resetDue = s.resetDue ∧
    t.freeSeed = s.freeSeed ∧ t.pending = s.pending := by
  unfold execLockCompletion at h
  repeat' (split at h)
  all_goals (cases h; simp)

theorem execLockOverride_frame (s t : State) (h : execLockOverride s = .next t) :
    t.rck = s.rck ∧ t.sif = s.sif ∧ t.psq = s.psq ∧ t.slots = s.slots ∧ t.qac = s.qac ∧ t.tau = s.tau ∧
    t.pcu = s.pcu ∧ t.ttb = s.ttb ∧ t.fetch = s.fetch ∧ t.mail = s.mail ∧ t.ticks = s.ticks ∧
    t.resetDue = s.resetDue ∧ t.freeSeed = s.freeSeed ∧ t.pending = s.pending := by
  simp only [execLockOverride, Host.Outcome.next.injEq] at h
  have f := storeRequest_frame (serveLockOverride) s
  have g := serveLockOverride_frame s 
  rcases State.request_cases s _ _ (storeRequest (serveLockOverride)) with e | e | e <;> rw [e] at h <;> subst h <;> simp_all

theorem execStoreClear_frame (s t : State) (h : execStoreClear s = .next t) :
    t.rck = s.rck ∧ t.sif = s.sif ∧ t.psq = s.psq ∧ t.slots = s.slots ∧ t.qac = s.qac ∧ t.tau = s.tau ∧
    t.pcu = s.pcu ∧ t.ttb = s.ttb ∧ t.fetch = s.fetch ∧ t.mail = s.mail ∧ t.ticks = s.ticks ∧
    t.resetDue = s.resetDue ∧ t.freeSeed = s.freeSeed ∧ t.pending = s.pending := by
  simp only [execStoreClear, Host.Outcome.next.injEq] at h
  have f := storeRequest_frame (serveStoreClear) s
  have g := serveStoreClear_frame s 
  rcases State.request_cases s _ _ (storeRequest (serveStoreClear)) with e | e | e <;> rw [e] at h <;> subst h <;> simp_all

theorem execClearBlockErasure_frame (s t : State) (h : execClearBlockErasure s = .next t) :
    t.testLink = s.testLink ∧ t.handlerLink = s.handlerLink ∧ t.lineLink = s.lineLink ∧ t.rck = s.rck ∧
    t.sif = s.sif ∧ t.psq = s.psq ∧ t.slots = s.slots ∧ t.qac = s.qac ∧ t.tau = s.tau ∧ t.ttb = s.ttb ∧
    t.fetch = s.fetch ∧ t.mail = s.mail ∧ t.ticks = s.ticks ∧ t.resetDue = s.resetDue ∧ t.freeSeed = s.freeSeed ∧
    t.pending = s.pending := by
  unfold execClearBlockErasure at h
  repeat' (split at h)
  all_goals (cases h; simp)

theorem execClearBlockCompletion_frame (s t : State) (success : Bool) (h : execClearBlockCompletion success s = .next t) :
    t.rck = s.rck ∧ t.sif = s.sif ∧ t.psq = s.psq ∧ t.slots = s.slots ∧ t.qac = s.qac ∧ t.tau = s.tau ∧
    t.pcu = s.pcu ∧ t.ttb = s.ttb ∧ t.mail = s.mail ∧ t.ticks = s.ticks ∧ t.resetDue = s.resetDue ∧
    t.freeSeed = s.freeSeed ∧ t.pending = s.pending := by
  unfold execClearBlockCompletion at h
  repeat' (split at h)
  all_goals (cases h; simp)

theorem execSuspend_frame (s t : State) (h : execSuspend s = .next t) :
    t.rck = s.rck ∧ t.sif = s.sif ∧ t.psq = s.psq ∧ t.slots = s.slots ∧ t.qac = s.qac ∧ t.tau = s.tau ∧
    t.pcu = s.pcu ∧ t.ttb = s.ttb ∧ t.fetch = s.fetch ∧ t.mail = s.mail ∧ t.ticks = s.ticks ∧
    t.resetDue = s.resetDue ∧ t.freeSeed = s.freeSeed ∧ t.pending = s.pending := by
  simp only [execSuspend, Host.Outcome.next.injEq] at h
  have f := storeRequest_frame (serveSuspend) s
  have g := serveSuspend_frame s 
  rcases State.request_cases s _ _ (storeRequest (serveSuspend)) with e | e | e <;> rw [e] at h <;> subst h <;> simp_all

theorem execSuspensionEvent_frame (s t : State) (h : execSuspensionEvent s = .next t) :
    t.rck = s.rck ∧ t.sif = s.sif ∧ t.psq = s.psq ∧ t.slots = s.slots ∧ t.qac = s.qac ∧ t.tau = s.tau ∧
    t.pcu = s.pcu ∧ t.ttb = s.ttb ∧ t.mail = s.mail ∧ t.ticks = s.ticks ∧ t.resetDue = s.resetDue ∧
    t.freeSeed = s.freeSeed ∧ t.pending = s.pending := by
  unfold execSuspensionEvent at h
  repeat' (split at h)
  all_goals (cases h; simp)

theorem execResume_frame (s t : State) (h : execResume s = .next t) :
    t.rck = s.rck ∧ t.sif = s.sif ∧ t.psq = s.psq ∧ t.slots = s.slots ∧ t.qac = s.qac ∧ t.tau = s.tau ∧
    t.pcu = s.pcu ∧ t.ttb = s.ttb ∧ t.fetch = s.fetch ∧ t.mail = s.mail ∧ t.ticks = s.ticks ∧
    t.resetDue = s.resetDue ∧ t.freeSeed = s.freeSeed ∧ t.pending = s.pending := by
  simp only [execResume, Host.Outcome.next.injEq] at h
  have f := storeRequest_frame (serveResume) s
  have g := serveResume_frame s 
  rcases State.request_cases s _ _ (storeRequest (serveResume)) with e | e | e <;> rw [e] at h <;> subst h <;> simp_all

theorem execStop_frame (s t : State) (h : execStop s = .next t) :
    t.rck = s.rck ∧ t.sif = s.sif ∧ t.psq = s.psq ∧ t.slots = s.slots ∧ t.qac = s.qac ∧ t.tau = s.tau ∧
    t.pcu = s.pcu ∧ t.ttb = s.ttb ∧ t.mail = s.mail ∧ t.ticks = s.ticks ∧ t.resetDue = s.resetDue ∧
    t.freeSeed = s.freeSeed ∧ t.pending = s.pending := by
  simp only [execStop, Host.Outcome.next.injEq] at h
  have f := storeRequest_frame (serveStop) s
  have g := serveStop_frame s 
  rcases State.request_cases s _ _ (storeRequest (serveStop)) with e | e | e <;> rw [e] at h <;> subst h <;> simp_all

theorem execClearStoreStatus_frame (s t : State) (h : execClearStoreStatus s = .next t) :
    t.rck = s.rck ∧ t.sif = s.sif ∧ t.psq = s.psq ∧ t.slots = s.slots ∧ t.qac = s.qac ∧ t.tau = s.tau ∧
    t.pcu = s.pcu ∧ t.ttb = s.ttb ∧ t.fetch = s.fetch ∧ t.mail = s.mail ∧ t.ticks = s.ticks ∧
    t.resetDue = s.resetDue ∧ t.freeSeed = s.freeSeed ∧ t.pending = s.pending := by
  simp only [execClearStoreStatus, Host.Outcome.next.injEq] at h
  have f := storeRequest_frame (serveClearStoreStatus) s
  have g := serveClearStoreStatus_frame s 
  rcases State.request_cases s _ _ (storeRequest (serveClearStoreStatus)) with e | e | e <;> rw [e] at h <;> subst h <;> simp_all

theorem execSetStoreMode_frame (s t : State) (mode : Nat) (h : execSetStoreMode mode s = .next t) :
    t.rck = s.rck ∧ t.sif = s.sif ∧ t.psq = s.psq ∧ t.slots = s.slots ∧ t.qac = s.qac ∧ t.tau = s.tau ∧
    t.pcu = s.pcu ∧ t.ttb = s.ttb ∧ t.fetch = s.fetch ∧ t.mail = s.mail ∧ t.ticks = s.ticks ∧
    t.resetDue = s.resetDue ∧ t.freeSeed = s.freeSeed ∧ t.pending = s.pending := by
  simp only [execSetStoreMode, Host.Outcome.next.injEq] at h
  have f := storeRequest_frame (serveSetStoreMode mode) s
  have g := serveSetStoreMode_frame s mode
  rcases State.request_cases s _ _ (storeRequest (serveSetStoreMode mode)) with e | e | e <;> rw [e] at h <;> subst h <;> simp_all

theorem execSetFetchPriority_frame (s t : State) (priority : Nat) (h : execSetFetchPriority priority s = .next t) :
    t.rck = s.rck ∧ t.sif = s.sif ∧ t.psq = s.psq ∧ t.slots = s.slots ∧ t.qac = s.qac ∧ t.tau = s.tau ∧
    t.pcu = s.pcu ∧ t.ttb = s.ttb ∧ t.fetch = s.fetch ∧ t.mail = s.mail ∧ t.ticks = s.ticks ∧
    t.resetDue = s.resetDue ∧ t.freeSeed = s.freeSeed ∧ t.pending = s.pending := by
  simp only [execSetFetchPriority, Host.Outcome.next.injEq] at h
  have f := storeRequest_frame (serveSetFetchPriority priority) s
  have g := serveSetFetchPriority_frame s priority
  rcases State.request_cases s _ _ (storeRequest (serveSetFetchPriority priority)) with e | e | e <;> rw [e] at h <;> subst h <;> simp_all

theorem execReadRecipe_frame (s t : State) (block part : Nat) (h : execReadRecipe block part s = .next t) :
    t.rck = s.rck ∧ t.sif = s.sif ∧ t.psq = s.psq ∧ t.slots = s.slots ∧ t.qac = s.qac ∧ t.tau = s.tau ∧
    t.pcu = s.pcu ∧ t.ttb = s.ttb ∧ t.fetch = s.fetch ∧ t.mail = s.mail ∧ t.ticks = s.ticks ∧
    t.resetDue = s.resetDue ∧ t.pending = s.pending := by
  simp only [execReadRecipe, Host.Outcome.next.injEq] at h
  have f := storeRequest_frame (serveReadRecipe block part) s
  have g := serveReadRecipe_frame s block part
  rcases State.request_cases s _ _ (storeRequest (serveReadRecipe block part)) with e | e | e <;> rw [e] at h <;> subst h <;> simp_all

theorem execReadStore_frame (s t : State) (h : execReadStore s = .next t) :
    t.rck = s.rck ∧ t.sif = s.sif ∧ t.psq = s.psq ∧ t.slots = s.slots ∧ t.qac = s.qac ∧ t.tau = s.tau ∧
    t.pcu = s.pcu ∧ t.ttb = s.ttb ∧ t.fetch = s.fetch ∧ t.mail = s.mail ∧ t.ticks = s.ticks ∧
    t.resetDue = s.resetDue ∧ t.freeSeed = s.freeSeed ∧ t.pending = s.pending := by
  simp only [execReadStore, Host.Outcome.next.injEq] at h
  have f := storeRequest_frame (serveReadStore) s
  have g := serveReadStore_frame s 
  rcases State.request_cases s _ _ (storeRequest (serveReadStore)) with e | e | e <;> rw [e] at h <;> subst h <;> simp_all

theorem execPatchEdit_frame (s t : State) (h : execPatchEdit s = .next t) :
    t.rck = s.rck ∧ t.sif = s.sif ∧ t.psq = s.psq ∧ t.slots = s.slots ∧ t.qac = s.qac ∧ t.tau = s.tau ∧
    t.rst = s.rst ∧ t.ttb = s.ttb ∧ t.fetch = s.fetch ∧ t.mail = s.mail ∧ t.ticks = s.ticks ∧
    t.resetDue = s.resetDue ∧ t.freeSeed = s.freeSeed ∧ t.pending = s.pending := by
  simp only [execPatchEdit, Host.Outcome.next.injEq] at h
  have g := servePatchEdit_frame s 
  rcases State.request_cases s _ _ (servePatchEdit) with e | e | e <;> rw [e] at h <;> subst h <;>
    simp_all [State.refuseTaken_rst, requestCode, storeCode]

theorem execPatchSet_frame (s t : State) (channel enable block kind selector field value : Nat) (h : execPatchSet channel enable block kind selector field value s = .next t) :
    t.rck = s.rck ∧ t.sif = s.sif ∧ t.psq = s.psq ∧ t.slots = s.slots ∧ t.qac = s.qac ∧ t.tau = s.tau ∧
    t.rst = s.rst ∧ t.ttb = s.ttb ∧ t.fetch = s.fetch ∧ t.mail = s.mail ∧ t.ticks = s.ticks ∧
    t.resetDue = s.resetDue ∧ t.freeSeed = s.freeSeed ∧ t.pending = s.pending := by
  simp only [execPatchSet, Host.Outcome.next.injEq] at h
  have g := servePatchSet_frame s channel enable block kind selector field value
  rcases State.request_cases s _ _ (servePatchSet channel enable block kind selector field value) with e | e | e <;> rw [e] at h <;> subst h <;>
    simp_all [State.refuseTaken_rst, requestCode, storeCode]

theorem execPatchApply_frame (s t : State) (h : execPatchApply s = .next t) :
    t.rck = s.rck ∧ t.sif = s.sif ∧ t.psq = s.psq ∧ t.slots = s.slots ∧ t.qac = s.qac ∧ t.tau = s.tau ∧
    t.rst = s.rst ∧ t.ttb = s.ttb ∧ t.fetch = s.fetch ∧ t.mail = s.mail ∧ t.ticks = s.ticks ∧
    t.resetDue = s.resetDue ∧ t.freeSeed = s.freeSeed ∧ t.pending = s.pending := by
  simp only [execPatchApply, Host.Outcome.next.injEq] at h
  have g := servePatchApply_frame s 
  rcases State.request_cases s _ _ (servePatchApply) with e | e | e <;> rw [e] at h <;> subst h <;>
    simp_all [State.refuseTaken_rst, requestCode, storeCode]

theorem execPatchWithdraw_frame (s t : State) (h : execPatchWithdraw s = .next t) :
    t.rck = s.rck ∧ t.sif = s.sif ∧ t.psq = s.psq ∧ t.slots = s.slots ∧ t.qac = s.qac ∧ t.tau = s.tau ∧
    t.rst = s.rst ∧ t.ttb = s.ttb ∧ t.fetch = s.fetch ∧ t.mail = s.mail ∧ t.ticks = s.ticks ∧
    t.resetDue = s.resetDue ∧ t.freeSeed = s.freeSeed ∧ t.pending = s.pending := by
  simp only [execPatchWithdraw, Host.Outcome.next.injEq] at h
  have g := servePatchWithdraw_frame s 
  rcases State.request_cases s _ _ (servePatchWithdraw) with e | e | e <;> rw [e] at h <;> subst h <;>
    simp_all [State.refuseTaken_rst, requestCode, storeCode]

theorem execOpenTote_frame (s t : State) (label bin capacity : Nat) (h : execOpenTote label bin capacity s = .next t) :
    t.rck = s.rck ∧ t.sif = s.sif ∧ t.psq = s.psq ∧ t.qac = s.qac ∧ t.tau = s.tau ∧ t.rst = s.rst ∧ t.pcu = s.pcu ∧
    t.fetch = s.fetch ∧ t.ticks = s.ticks ∧ t.resetDue = s.resetDue ∧ t.freeSeed = s.freeSeed ∧
    t.pending = s.pending := by
  simp only [execOpenTote, Host.Outcome.next.injEq] at h
  have g := serveOpenTote_frame s label bin capacity
  rcases State.request_cases s _ _ (serveOpenTote label bin capacity) with e | e | e <;> rw [e] at h <;> subst h <;>
    simp_all [State.refuseTaken_rst, requestCode, storeCode]

theorem execCloseTote_frame (s t : State) (record : Nat) (h : execCloseTote record s = .next t) :
    t.rck = s.rck ∧ t.sif = s.sif ∧ t.psq = s.psq ∧ t.slots = s.slots ∧ t.qac = s.qac ∧ t.tau = s.tau ∧
    t.rst = s.rst ∧ t.pcu = s.pcu ∧ t.fetch = s.fetch ∧ t.mail = s.mail ∧ t.ticks = s.ticks ∧
    t.resetDue = s.resetDue ∧ t.freeSeed = s.freeSeed ∧ t.pending = s.pending := by
  simp only [execCloseTote, Host.Outcome.next.injEq] at h
  have g := serveCloseTote_frame s record
  rcases State.request_cases s _ _ (serveCloseTote record) with e | e | e <;> rw [e] at h <;> subst h <;>
    simp_all [State.refuseTaken_rst, requestCode, storeCode]

theorem execReleaseTote_frame (s t : State) (record : Nat) (h : execReleaseTote record s = .next t) :
    t.rck = s.rck ∧ t.sif = s.sif ∧ t.psq = s.psq ∧ t.slots = s.slots ∧ t.qac = s.qac ∧ t.tau = s.tau ∧
    t.rst = s.rst ∧ t.pcu = s.pcu ∧ t.fetch = s.fetch ∧ t.mail = s.mail ∧ t.ticks = s.ticks ∧
    t.resetDue = s.resetDue ∧ t.freeSeed = s.freeSeed ∧ t.pending = s.pending := by
  simp only [execReleaseTote, Host.Outcome.next.injEq] at h
  have g := serveReleaseTote_frame s record
  rcases State.request_cases s _ _ (serveReleaseTote record) with e | e | e <;> rw [e] at h <;> subst h <;>
    simp_all [State.refuseTaken_rst, requestCode, storeCode]

theorem execReadTote_frame (s t : State) (link : Link) (record position : Nat) (h : execReadTote link record position s = .next t) :
    t.rck = s.rck ∧ t.sif = s.sif ∧ t.psq = s.psq ∧ t.slots = s.slots ∧ t.qac = s.qac ∧ t.tau = s.tau ∧
    t.rst = s.rst ∧ t.pcu = s.pcu ∧ t.ttb = s.ttb ∧ t.fetch = s.fetch ∧ t.mail = s.mail ∧ t.ticks = s.ticks ∧
    t.resetDue = s.resetDue ∧ t.freeSeed = s.freeSeed ∧ t.pending = s.pending := by
  simp only [execReadTote, Host.Outcome.next.injEq] at h
  have g := serveReadTote_frame s record position
  rcases State.request_cases s _ _ (serveReadTote record position) with e | e | e <;> rw [e] at h <;> subst h <;>
    simp_all [State.refuseTaken_rst, requestCode, storeCode]

theorem execRackReset_frame (s t : State) (h : execRackReset s = .next t) :
    t.rck = s.rck ∧ t.sif = s.sif ∧ t.psq = s.psq ∧ t.slots = s.slots ∧ t.qac = s.qac ∧ t.tau = s.tau ∧
    t.rst = s.rst ∧ t.pcu = s.pcu ∧ t.ttb = s.ttb ∧ t.fetch = s.fetch ∧ t.mail = s.mail ∧ t.ticks = s.ticks ∧
    t.resetDue = s.resetDue ∧ t.freeSeed = s.freeSeed ∧ t.pending = s.pending := by
  simp only [execRackReset, Host.Outcome.next.injEq] at h
  have g := serveRackReset_frame s 
  rcases State.request_cases s _ _ (serveRackReset) with e | e | e <;> rw [e] at h <;> subst h <;>
    simp_all [State.refuseTaken_rst, requestCode, storeCode]

theorem execReceivedByte_frame (s t : State) (link : Link) (byte : Byte) (h : execReceivedByte link byte s = .next t) :
    t.rck = s.rck ∧ t.sif = s.sif ∧ t.psq = s.psq ∧ t.slots = s.slots ∧ t.qac = s.qac ∧ t.tau = s.tau ∧
    t.pcu = s.pcu ∧ t.ttb = s.ttb ∧ t.fetch = s.fetch ∧ t.mail = s.mail ∧ t.ticks = s.ticks ∧
    t.resetDue = s.resetDue ∧ t.freeSeed = s.freeSeed ∧ t.pending = s.pending := by
  unfold execReceivedByte at h
  repeat' (split at h)
  all_goals (cases h; simp)

end Sys2Proof.Machine
end

