-- ==== Sys2Proof/Laws/Tables.lean ====
section
/-! SUPPORT. Tables: counting the entries of a table that changes in one place, and what the shared operations make of the
entries they write. -/

namespace Sys2Proof.Machine

/-- The two counts of a table before and after one place changes differ by that place alone. -/
theorem countP_update {α : Type} {n : Nat} (v : Vector α n) (j : Fin n) (x : α) (f : α → Bool) :
    ∀ l : List (Fin n), l.Nodup → j ∈ l →
      (l.countP fun i => f (tget (tset v j x) i)) + (if f (tget v j) then 1 else 0) =
        (l.countP fun i => f (tget v i)) + (if f x then 1 else 0) := by
  have off : ∀ l : List (Fin n), j ∉ l →
      (l.countP fun i => f (tget (tset v j x) i)) = l.countP fun i => f (tget v i) := by
    intro l hl
    apply List.countP_congr
    intro i hi
    have : i ≠ j := fun e => hl (e ▸ hi)
    simp [tget_tset_ne _ _ _ _ this]
  intro l
  induction l with
  | nil => simp
  | cons i l ih =>
    intro hn hj
    rw [List.nodup_cons] at hn
    by_cases e : i = j
    · subst e
      simp only [List.countP_cons, off l hn.1, tget_tset_same]
      omega
    · have hj' : j ∈ l := by
        rcases List.mem_cons.1 hj with h | h
        · exact absurd h.symm e
        · exact h
      have := ih hn.2 hj'
      simp only [List.countP_cons, tget_tset_ne _ _ _ _ e]
      omega

theorem mem_allSlots (i : Slot) : i ∈ allSlots := List.mem_finRange i

theorem nodup_allSlots : allSlots.Nodup := List.nodup_finRange 24

theorem mem_allTotes (t : ToteNo) : t ∈ allTotes := List.mem_finRange t

theorem nodup_allTotes : allTotes.Nodup := List.nodup_finRange 8

theorem mem_allBlocks (b : BlockNo) : b ∈ allBlocks := List.mem_finRange b

/-- The count over all slots after one place changes. -/
theorem countP_slots {α : Type} (v : Vector α 24) (j : Slot) (x : α) (f : α → Bool) :
    (allSlots.countP fun i => f (tget (tset v j x) i)) + (if f (tget v j) then 1 else 0) =
      (allSlots.countP fun i => f (tget v i)) + (if f x then 1 else 0) :=
  countP_update v j x f allSlots nodup_allSlots (mem_allSlots j)

/-! ### Links -/

@[simp] theorem State.link_setLink_same (s : State) (l : Link) (ls : LinkState) : (s.setLink l ls).link l = ls := by
  cases l <;> rfl

theorem State.link_setLink_ne (s : State) (l m : Link) (ls : LinkState) (h : m ≠ l) :
    (s.setLink l ls).link m = s.link m := by
  cases l <;> cases m <;> first | rfl | exact absurd rfl h

theorem State.link_post (s : State) (k : NoticeKind) (n : Nat) (l : Link) :
    (s.post k n).link l = if k.recordedOn l then (s.link l).post k n else s.link l := by
  cases l <;> rfl

/-! ### Slot records and the events on their way -/

theorem State.slot_putSlot (s : State) (i j : Slot) (r : SlotRecord) :
    (s.putSlot i r).slot j = if j = i then r else s.slot j := by
  simp only [State.slot, State.putSlot]; exact tget_tset s.slots i j r

@[simp] theorem State.slot_putSlot_same (s : State) (i : Slot) (r : SlotRecord) : (s.putSlot i r).slot i = r := by
  simp [State.slot_putSlot]

theorem State.mailOf_setMail (s : State) (i j : Slot) (m : Mail) :
    (s.setMail i m).mailOf j = if j = i then m else s.mailOf j := by
  simp only [State.mailOf, State.setMail]; exact tget_tset s.mail i j m

@[simp] theorem State.mailOf_setMail_same (s : State) (i : Slot) (m : Mail) : (s.setMail i m).mailOf i = m := by
  simp [State.mailOf_setMail]

/-- A slot's mail after SSQ writes a record: one more report to QAC when the write is reportable. -/
theorem State.mailOf_putSlot (s : State) (i j : Slot) (r : SlotRecord) :
    (s.putSlot i r).mailOf j = if j = i ∧ (s.slot i).reportable r = true then
      { s.mailOf j with changes := (s.mailOf j).changes + 1 } else s.mailOf j := by
  by_cases e : j = i
  · subst e; simp [State.mailOf, State.putSlot]
  · simp [State.mailOf, State.putSlot, tget_tset_ne _ _ _ _ e, e]

/-! ### Records of the other blocks -/

theorem State.access_setAccess (s : State) (r q : Fin 2) (a : AccessRecord) :
    (s.setAccess r a).access q = if q = r then a else s.access q := by
  simp only [State.access, State.setAccess]; exact tget_tset s.qac.records r q a

theorem State.block_setBlock (s : State) (b c : BlockNo) (k : RecipeBlock) :
    (s.setBlock b k).block c = if c = b then k else s.block c := by
  simp only [State.block, State.setBlock]; exact tget_tset s.rst.blocks b c k

theorem State.tote_setTote (s : State) (t u : ToteNo) (r : Tote) :
    (s.setTote t r).tote u = if u = t then r else s.tote u := by
  simp only [State.tote, State.setTote]; exact tget_tset s.ttb.totes t u r

theorem State.temp_setTemp (s : State) (i j : Slot) (c : TempContext) :
    (s.setTemp i c).temp j = if j = i then c else s.temp j := by
  simp only [State.temp, State.setTemp]; exact tget_tset s.tau.contexts i j c

end Sys2Proof.Machine
end

