-- ==== Sys2Proof/Laws/Power.lean ====
section
/-! SUPPORT. The power sequencer: what each of its operations makes of the queue, the lanes and the phases. -/

namespace Sys2Proof.Machine

/-- The laws of PSQ that hold between any two of its operations; `looked` of `PowerLaws` holds after a look at the queue. -/
structure PowerCore (p : Psq) : Prop where
  queueOnce : p.queue.Nodup
  queued : ∀ i, i ∈ p.queue ↔ (tget p.slots i).phase = .queued
  lanes : p.lanes = allSlots.countP fun i => (tget p.slots i).phase == .spinUp
  output : ∀ i, (tget p.slots i).output = true ↔ (tget p.slots i).phase = .spinUp ∨ (tget p.slots i).phase = .on
  timer : ∀ i, (tget p.slots i).timer.isSome = true ↔
    (tget p.slots i).phase = .spinUp ∨ (tget p.slots i).phase = .spinDown
  budget : 1 ≤ p.budget ∧ p.budget ≤ 8
  times : 2 ≤ p.upTime ∧ p.upTime ≤ 30 ∧ 2 ≤ p.downTime ∧ p.downTime ≤ 30

theorem PowerLaws.core {p : Psq} (h : PowerLaws p) : PowerCore p :=
  ⟨h.queueOnce, h.queued, h.lanes, h.output, h.timer, h.budget, h.times⟩

theorem PowerCore.laws {p : Psq} (h : PowerCore p) (l : p.queue = [] ∨ p.budget ≤ p.lanes) : PowerLaws p :=
  ⟨h.queueOnce, h.queued, h.lanes, h.output, h.timer, l, h.budget, h.times⟩

/-- A power record whose output and timer fit its phase. -/
def PowerSlot.fits (x : PowerSlot) : Prop :=
  (x.output = true ↔ x.phase = .spinUp ∨ x.phase = .on) ∧ (x.timer.isSome = true ↔ x.phase = .spinUp ∨ x.phase = .spinDown)

/-- Writing one power record, with the queue and the lanes changed to match, keeps the laws. -/
theorem PowerCore.write {p q : Psq} (h : PowerCore p) (i : Slot) (x : PowerSlot)
    (hs : q.slots = tset p.slots i x) (hb : q.budget = p.budget) (hu : q.upTime = p.upTime) (hd : q.downTime = p.downTime)
    (hx : x.fits) (hn : q.queue.Nodup) (hq : ∀ j, j ∈ q.queue ↔ if j = i then x.phase = .queued else j ∈ p.queue)
    (hl : q.lanes + (if (tget p.slots i).phase = .spinUp then 1 else 0) = p.lanes + if x.phase = .spinUp then 1 else 0) :
    PowerCore q := by
  refine ⟨hn, ?_, ?_, ?_, ?_, by rw [hb]; exact h.budget, by rw [hu, hd]; exact h.times⟩
  · intro j
    rw [hq j, hs, tget_tset]
    split
    · rfl
    · exact h.queued j
  · have c := countP_slots p.slots i x fun y => y.phase == .spinUp
    have l := h.lanes
    simp only [beq_iff_eq] at c
    rw [hs]
    simp only [l] at hl
    omega
  · intro j; rw [hs, tget_tset]; split
    · exact hx.1
    · exact h.output j
  · intro j; rw [hs, tget_tset]; split
    · exact hx.2
    · exact h.timer j

theorem PowerCore.pos {p : Psq} (h : PowerCore p) (i : Slot) (hi : (tget p.slots i).phase = .spinUp) : 1 ≤ p.lanes := by
  rw [h.lanes]
  exact List.countP_pos_iff.2 ⟨i, mem_allSlots i, by simp [hi]⟩

theorem PowerCore.startSlot {p : Psq} (h : PowerCore p) (osc : Nat) (i : Slot) (rest : List Slot)
    (hq : p.queue = i :: rest) : PowerCore (p.startSlot osc i rest) := by
  have hi : (tget p.slots i).phase = .queued := (h.queued i).1 (by simp [hq])
  have hn := h.queueOnce
  rw [hq, List.nodup_cons] at hn
  refine h.write i ⟨.spinUp, true, some (osc + p.upTime * 1000)⟩ rfl rfl rfl rfl (by simp [PowerSlot.fits]) hn.2 ?_ ?_
  · intro j
    by_cases e : j = i
    · subst e; simpa [Psq.startSlot] using hn.1
    · simp [Psq.startSlot, hq, e]
  · simp [Psq.startSlot, hi]

/-- The look at the start conditions keeps the laws, and leaves an empty queue or no lane free (R38). -/
theorem Psq.startAll_spec (osc : Nat) : ∀ (q : List Slot) (p : Psq), p.queue = q → PowerCore p →
    PowerLaws (Psq.startAll osc q p).1 ∧ (Psq.startAll osc q p).1.budget = p.budget ∧
    ∃ k, (Psq.startAll osc q p).2 = q.take k ∧ (Psq.startAll osc q p).1.queue = q.drop k ∧
      (Psq.startAll osc q p).1.lanes = p.lanes + (Psq.startAll osc q p).2.length := by
  intro q
  induction q with
  | nil => intro p hq h; exact ⟨h.laws (.inl hq), rfl, 0, rfl, hq, rfl⟩
  | cons i rest ih =>
    intro p hq h
    unfold Psq.startAll
    split
    · obtain ⟨a, c, k, d, e, f⟩ := ih (p.startSlot osc i rest) rfl (h.startSlot osc i rest hq)
      refine ⟨a, c, k + 1, by simp [d], by simp [e], ?_⟩
      simp only [f, List.length_cons]; simp only [Psq.startSlot]; omega
    · next hlt => exact ⟨h.laws (.inr (by omega)), rfl, 0, rfl, hq, rfl⟩

theorem giveReports_psq (js : List Slot) (o : PowerReport) (s : State) :
    (js.foldl (fun t i => t.giveReport i o) s).psq = s.psq := by
  have h := giveReports_frame js o s
  simp_all

/-- The look at the queue, as PSQ keeps it: the laws hold after it (R38). -/
theorem State.lookAtQueue_psq (s : State) : s.lookAtQueue.psq = (Psq.startAll s.rck.osc s.psq.queue s.psq).1 := by
  unfold State.lookAtQueue
  rw [giveReports_psq]

theorem State.lookAtQueue_laws (s : State) (h : PowerCore s.psq) : PowerLaws s.lookAtQueue.psq := by
  rw [State.lookAtQueue_psq]
  exact (Psq.startAll_spec s.rck.osc s.psq.queue s.psq rfl h).1

theorem PowerCore.enqueue {p : Psq} (h : PowerCore p) (i : Slot) : PowerCore (p.enqueue i) := by
  unfold Psq.enqueue
  split
  · next hi =>
    have hni : i ∉ p.queue := fun m => by have := (h.queued i).1 m; simp [hi] at this
    refine h.write i ⟨.queued, false, none⟩ rfl rfl rfl rfl (by simp [PowerSlot.fits]) ?_ ?_ ?_
    · exact List.nodup_append.2 ⟨h.queueOnce, by simp, by intro a ha c hc e; simp at hc; exact hni (hc ▸ e ▸ ha)⟩
    · intro j
      by_cases e : j = i <;> simp [e]
    · simp [hi]
  · exact h

theorem PowerCore.cut {p : Psq} (h : PowerCore p) (osc : Nat) (i : Slot) (hi : (tget p.slots i).phase = .on) :
    PowerCore (p.cut osc i) := by
  have hni : i ∉ p.queue := fun m => by have := (h.queued i).1 m; simp [hi] at this
  refine h.write i ⟨.spinDown, false, some (osc + p.downTime * 1000)⟩ rfl rfl rfl rfl (by simp [PowerSlot.fits])
    h.queueOnce ?_ (by simp [Psq.cut, hi])
  intro j
  by_cases e : j = i
  · subst e; simpa [Psq.cut] using hni
  · simp [Psq.cut, e]

theorem PowerCore.cutLane {p : Psq} (h : PowerCore p) (osc : Nat) (i : Slot) (hi : (tget p.slots i).phase = .spinUp) :
    PowerCore (p.cut osc i).freeLane := by
  have hni : i ∉ p.queue := fun m => by have := (h.queued i).1 m; simp [hi] at this
  have hp := h.pos i hi
  refine h.write i ⟨.spinDown, false, some (osc + p.downTime * 1000)⟩ rfl rfl rfl rfl (by simp [PowerSlot.fits])
    h.queueOnce ?_ (by simp [Psq.cut, Psq.freeLane, hi]; omega)
  intro j
  by_cases e : j = i
  · subst e; simpa [Psq.cut, Psq.freeLane] using hni
  · simp [Psq.cut, Psq.freeLane, e]

theorem PowerCore.putOff {p : Psq} (h : PowerCore p) (i : Slot) (hi : (tget p.slots i).phase ≠ .spinUp)
    (hj : (tget p.slots i).phase ≠ .queued) : PowerCore (p.putOff i) := by
  have hni : i ∉ p.queue := fun m => hj ((h.queued i).1 m)
  refine h.write i ⟨.off, false, none⟩ rfl rfl rfl rfl (by simp [PowerSlot.fits]) h.queueOnce ?_ (by simp [Psq.putOff, hi])
  intro j
  by_cases e : j = i
  · subst e; simpa [Psq.putOff] using hni
  · simp [Psq.putOff, e]

theorem PowerCore.putOffLane {p : Psq} (h : PowerCore p) (i : Slot) (hi : (tget p.slots i).phase = .spinUp) :
    PowerCore (p.putOff i).freeLane := by
  have hni : i ∉ p.queue := fun m => by have := (h.queued i).1 m; simp [hi] at this
  have hp := h.pos i hi
  refine h.write i ⟨.off, false, none⟩ rfl rfl rfl rfl (by simp [PowerSlot.fits]) h.queueOnce ?_
    (by simp [Psq.putOff, Psq.freeLane, hi]; omega)
  intro j
  by_cases e : j = i
  · subst e; simpa [Psq.putOff, Psq.freeLane] using hni
  · simp [Psq.putOff, Psq.freeLane, e]

theorem PowerCore.unqueue {p : Psq} (h : PowerCore p) (i : Slot) (hi : (tget p.slots i).phase = .queued) :
    PowerCore ((p.unqueue i).putOff i) := by
  refine h.write i ⟨.off, false, none⟩ rfl rfl rfl rfl (by simp [PowerSlot.fits]) (h.queueOnce.erase i) ?_
    (by simp [Psq.putOff, Psq.unqueue, hi])
  intro j
  by_cases e : j = i
  · subst e; simpa [Psq.putOff, Psq.unqueue] using fun m => (h.queueOnce.mem_erase_iff.1 m).1 rfl
  · simp [Psq.putOff, Psq.unqueue, e, h.queueOnce.mem_erase_iff]

theorem PowerCore.spunUp {p : Psq} (h : PowerCore p) (i : Slot) (hi : (tget p.slots i).phase = .spinUp) :
    PowerCore { p with slots := tset p.slots i ⟨.on, true, none⟩ }.freeLane := by
  have hni : i ∉ p.queue := fun m => by have := (h.queued i).1 m; simp [hi] at this
  have hp := h.pos i hi
  refine h.write i ⟨.on, true, none⟩ rfl rfl rfl rfl (by simp [PowerSlot.fits]) h.queueOnce ?_
    (by simp [Psq.freeLane, hi]; omega)
  intro j
  by_cases e : j = i
  · subst e; simpa [Psq.freeLane] using hni
  · simp [Psq.freeLane, e]

theorem PowerCore.servePowerOff {p : Psq} (h : PowerCore p) (osc : Nat) (i : Slot) :
    PowerCore (p.servePowerOff osc i).1 := by
  unfold Psq.servePowerOff
  split
  · next hi => exact h.unqueue i hi
  · next hi => exact h.cutLane osc i hi
  · next hi => exact h.cut osc i hi
  · exact h
  · exact h

theorem PowerCore.serveSpinDown {p : Psq} (h : PowerCore p) (osc : Nat) (i : Slot) : PowerCore (p.serveSpinDown osc i) := by
  unfold Psq.serveSpinDown
  split
  · next hi => exact h.cutLane osc i hi
  · next hi => exact h.cut osc i hi
  · exact h

theorem PowerCore.serveRelease {p : Psq} (h : PowerCore p) (i : Slot) : PowerCore (p.serveRelease i) := by
  unfold Psq.serveRelease
  split
  · next hi => exact h.unqueue i hi
  · next hi => exact h.putOffLane i hi
  · next hi => exact h.putOff i (by simp [hi]) (by simp [hi])
  · next hi => exact h.putOff i (by simp [hi]) (by simp [hi])
  · exact h

theorem State.runOrder_laws (s : State) (i : Slot) (o : PowerOrder) (h : PowerCore s.psq) : PowerLaws (s.runOrder i o).psq := by
  cases o with
  | powerOff q =>
    have := State.lookAtQueue_laws { s with psq := (s.psq.servePowerOff s.rck.osc i).1 } (h.servePowerOff s.rck.osc i)
    simpa [State.runOrder, State.runPowerOff] using this
  | spinDown => exact State.lookAtQueue_laws { s with psq := s.psq.serveSpinDown s.rck.osc i } (h.serveSpinDown s.rck.osc i)
  | release => exact State.lookAtQueue_laws { s with psq := s.psq.serveRelease i } (h.serveRelease i)

theorem State.runOrders_core (i : Slot) (os : List PowerOrder) : ∀ s : State, PowerCore s.psq →
    PowerCore (State.runOrders i os s).psq := by
  induction os with
  | nil => intro s h; exact h
  | cons o os ih => intro s h; exact ih _ (State.runOrder_laws (s.dropOrder i) i o (by simpa using h)).core

end Sys2Proof.Machine
end

