-- ==== Sys2Proof/Laws/Ranges.lean ====
section
/-! SUPPORT. The readings of an argument that checks its range: what each admits and what it refuses (R7). -/

namespace Sys2Proof.Machine

@[simp] theorem slotOf?_val (i : Slot) : slotOf? i.val = some i := by simp [slotOf?]
@[simp] theorem blockOf?_val (b : BlockNo) : blockOf? b.val = some b := by simp [blockOf?]
@[simp] theorem measureOf?_val (m : MeasureId) : measureOf? m.val = some m := by simp [measureOf?]
@[simp] theorem toteOf?_val (t : ToteNo) : toteOf? t.val = some t := by simp [toteOf?]
@[simp] theorem recordOf?_val (r : Fin 2) : recordOf? r.val = some r := dif_pos r.isLt
@[simp] theorem channelOf?_val (c : Fin 4) : channelOf? c.val = some c := by simp [channelOf?]
@[simp] theorem stepOf?_val (i : Fin 16) : stepOf? i.val = some i := by simp [stepOf?]
@[simp] theorem profileOf?_val (p : Fin 2) : profileOf? p.val = some p := dif_pos p.isLt

theorem slotOf?_none {n : Nat} (h : 24 ≤ n) : slotOf? n = none := by simp [slotOf?]; omega
theorem blockOf?_none {n : Nat} (h : 32 ≤ n) : blockOf? n = none := by simp [blockOf?]; omega
theorem measureOf?_none {n : Nat} (h : 8 ≤ n) : measureOf? n = none := by simp [measureOf?]; omega
theorem toteOf?_none {n : Nat} (h : 8 ≤ n) : toteOf? n = none := by simp [toteOf?]; omega
theorem recordOf?_none {n : Nat} (h : 2 ≤ n) : recordOf? n = none := by simp [recordOf?]; omega
theorem channelOf?_none {n : Nat} (h : 4 ≤ n) : channelOf? n = none := by simp [channelOf?]; omega
theorem stepOf?_none {n : Nat} (h : 16 ≤ n) : stepOf? n = none := by simp [stepOf?]; omega
theorem profileOf?_none {n : Nat} (h : 2 ≤ n) : profileOf? n = none := by simp [profileOf?]; omega

theorem slotOf?_some {n : Nat} {i : Slot} (h : slotOf? n = some i) : i.val = n := by
  unfold slotOf? at h; split at h <;> cases h; rfl

theorem blockOf?_some {n : Nat} {b : BlockNo} (h : blockOf? n = some b) : b.val = n := by
  unfold blockOf? at h; split at h <;> cases h; rfl

/-- A value in its range is read as itself. -/
theorem natIn?_in {lo hi n : Nat} (h : lo ≤ n ∧ n ≤ hi) : natIn? lo hi n = some n := by simp [natIn?, h]

/-- A value out of its range is refused. -/
theorem natIn?_out {lo hi n : Nat} (h : n < lo ∨ hi < n) : natIn? lo hi n = none := by simp [natIn?]; omega

theorem natIn?_some {lo hi n m : Nat} (h : natIn? lo hi n = some m) : m = n ∧ lo ≤ n ∧ n ≤ hi := by
  unfold natIn? at h; split at h
  · next c => cases h; exact ⟨rfl, c⟩
  · cases h

theorem intIn?_in {lo hi z : Int} (h : lo ≤ z ∧ z ≤ hi) : intIn? lo hi z = some z := by simp [intIn?, h]

theorem intIn?_out {lo hi z : Int} (h : z < lo ∨ hi < z) : intIn? lo hi z = none := by simp [intIn?]; omega

/-- A string is read as itself exactly when its length and its characters are admitted. -/
theorem stringIn?_eq (lo hi : Nat) (cs : List Byte) : stringIn? lo hi cs =
    if lo ≤ cs.length ∧ cs.length ≤ hi ∧ ∀ b ∈ cs, 0x20 ≤ b.toNat ∧ b.toNat ≤ 0x7E then some cs else none := by
  unfold stringIn?; simp only [printable, List.all_eq_true, decide_eq_true_eq]

end Sys2Proof.Machine
end

