-- ==== Sys2Proof/Laws/Requests.lean ====
section
/-! SUPPORT. Serving a request: what comes of a request that its link holds ready, and of a response when the list has room. -/

namespace Sys2Proof.Machine

/-- A request that its link holds is served. -/
theorem State.request_held (s : State) (l : Link) (c : Instr) (serve : State → State × Reply)
    (h : (s.link l).held = some (.passed c)) : s.request l c serve = (serve s).1.settle l c (serve s).2 := by
  unfold State.request; simp [h]

/-- A request that its link holds ready is served. -/
theorem State.request_ready (s : State) (l : Link) (c : Instr) (serve : State → State × Reply) (h : s.Ready l c) :
    s.request l c serve = (serve s).1.settle l c (serve s).2 := s.request_held l c serve h.1

/-- With room in the output list a response enters it and releases the request (R3, R4). -/
theorem State.respond_room (s : State) (l : Link) (n : Nat) (k : RespCode) (p : List Byte)
    (h : (s.link l).output.length < Config.outputDepth) :
    s.respond l n k p =
      s.setLink l { s.link l with output := (s.link l).output ++ [responseFrame n k p], held := none } := by
  simp only [State.respond, LinkState.respond, LinkState.hasRoom, h, decide_true, if_true]

/-- With the output list full a response waits, and the request stays held (R3, R4). -/
theorem State.respond_full (s : State) (l : Link) (n : Nat) (k : RespCode) (p : List Byte)
    (h : Config.outputDepth ≤ (s.link l).output.length) :
    s.respond l n k p = s.setLink l { s.link l with held := some (.answered (responseFrame n k p)) } := by
  have h' : ¬ (s.link l).output.length < Config.outputDepth := by omega
  simp only [State.respond, LinkState.respond, LinkState.hasRoom, h', decide_false, Bool.false_eq_true, if_false]

/-- A response at once, with room in the output list. -/
theorem State.settle_now (s : State) (l : Link) (c : Instr) (k : RespCode) (p : List Byte)
    (h : (s.link l).output.length < Config.outputDepth) : s.settle l c (.now k p) = s.answered l c k p := by
  simp only [State.settle, s.respond_room l _ k p h, State.answered]

theorem State.settle_later (s : State) (l : Link) (c : Instr) :
    s.settle l c .later = s.setLink l { s.link l with held := some (.serving c) } := rfl

theorem State.settle_notYet (s : State) (l : Link) (c : Instr) :
    s.settle l c .notYet = s.setLink l { s.link l with held := some (.passed c) } := rfl

/-- A request that is refused at once changes nothing but its link. -/
theorem State.request_refused (s : State) (l : Link) (c : Instr) (serve : State → State × Reply) (k : RespCode)
    (h : s.Ready l c) (hs : serve s = (s, .refuse k)) : s.request l c serve = s.answered l c k [] := by
  rw [s.request_ready l c serve h, hs]; exact s.settle_now l c k [] h.2

/-- A request that is answered at once. -/
theorem State.request_now (s t : State) (l : Link) (c : Instr) (serve : State → State × Reply) (k : RespCode)
    (p : List Byte) (h : s.Ready l c) (hs : serve s = (t, .now k p)) (ht : (t.link l).output = (s.link l).output) :
    s.request l c serve = t.answered l c k p := by
  rw [s.request_ready l c serve h, hs]; exact t.settle_now l c k p (ht ▸ h.2)

/-- A posted notice leaves the held request and the output list of every link as they are. -/
@[simp] theorem State.link_post_keeps (s : State) (k : NoticeKind) (n : Nat) (l : Link) :
    ((s.post k n).link l).output = (s.link l).output ∧ ((s.post k n).link l).held = (s.link l).held ∧
    ((s.post k n).link l).receiver = (s.link l).receiver := by
  rw [State.link_post]
  unfold LinkState.post LinkState.refresh
  repeat' split
  all_goals simp

/-- A request that a later event answers. -/
theorem State.request_later (s t : State) (l : Link) (c : Instr) (serve : State → State × Reply)
    (h : s.Ready l c) (hs : serve s = (t, .later)) :
    s.request l c serve = t.setLink l { t.link l with held := some (.serving c) } := by
  rw [s.request_ready l c serve h, hs]; rfl

/-- A refused request of the recipe store changes nothing but its link and the lock override flag (R116). -/
theorem State.storeRequest_refused (s : State) (c : Instr) (serve : State → State × Reply) (k : RespCode)
    (hk : k.success = false) (h : s.Ready .line c) (hs : serve s = (s, .refuse k)) :
    s.request .line c (storeRequest serve) = s.clearOverride.answered .line c k [] := by
  have e : storeRequest serve s = (s.clearOverride, .now k []) := by simp [storeRequest, hs, Reply.refuse, hk]
  exact State.request_now s s.clearOverride _ _ _ _ _ h e rfl

/-- A request of the recipe store that is answered with a success code. -/
theorem State.storeRequest_now (s t : State) (c : Instr) (serve : State → State × Reply) (k : RespCode) (p : List Byte)
    (hk : k.success = true) (h : s.Ready .line c) (hs : serve s = (t, .now k p))
    (ht : (t.link .line).output = (s.link .line).output) :
    s.request .line c (storeRequest serve) = t.answered .line c k p := by
  have e : storeRequest serve s = (t, .now k p) := by simp [storeRequest, hs, hk]
  exact State.request_now s t _ _ _ _ _ h e ht

end Sys2Proof.Machine
end

