-- ==== Sys2Proof/Tests/Slice0.lean ====
section
/-! SUPPORT. Checks of the definitions against values the manual gives or that are worked out by hand from its rules, and a
state in which every hypothesis of the statements is met: `live`, and `live` with one request ready or one event on its way. -/

namespace Sys2Proof.Tests

open Sys2Proof.Machine

set_option Elab.async false

/-! ### Well-formed commands: one ill-formed term for each check -/

theorem test_wf_byte : wellFormed (.powerOn 256) = false ∧ wellFormed (.powerOn 255) = true := by decide
theorem test_wf_two_bytes : wellFormed (.start 0 65536) = false ∧ wellFormed (.start 0 65535) = true := by decide
theorem test_wf_four_bytes : wellFormed (.measure 0 0 4294967296) = false ∧ wellFormed (.setTime 4294967295 0) = true := by
  decide
theorem test_wf_signed_byte : wellFormed (.setOffset 0 128) = false ∧ wellFormed (.setOffset 0 (-128)) = true := by decide
theorem test_wf_signed_two_bytes : wellFormed (.setProfile 0 32768 10 (List.replicate 16 0)) = false := by decide
theorem test_wf_list_count : wellFormed (.setProfile 0 0 10 (List.replicate 15 0)) = false := by decide
theorem test_wf_list_item : wellFormed (.setLevels .test [(1, 256)]) = false := by decide
theorem test_wf_string : wellFormed (.setSerial 0 (List.replicate 256 65#8)) = false := by decide +kernel
theorem test_wf_optional :
    wellFormed (.stageStep 0 0 0 0 ⟨256, 0⟩ 0 0 ⟨0, 0⟩ ⟨0, 0⟩) = false ∧
    wellFormed (.stageStep 0 0 0 0 ⟨1, -1⟩ 0 0 ⟨0, 0⟩ ⟨0, 0⟩) = false ∧
    wellFormed (.stageStep 0 0 0 0 ⟨0, 0⟩ 0 0 ⟨0, 0⟩ ⟨1, 32768⟩) = false ∧
    wellFormed (.stageStep 0 0 0 0 ⟨1, 65535⟩ 0 0 ⟨1, 0⟩ ⟨1, -32768⟩) = true := by decide

/-- No row of the table gives bits, so no word spells a command. -/
theorem test_no_word_decodes : decodeTableWord 16 0xFFFF = none := by decide

/-! ### Values the manual gives -/

/-- R2: the CRC of the nine characters 123456789 is 29B1. -/
theorem test_crc16_check :
    crc16 [0x31#8, 0x32#8, 0x33#8, 0x34#8, 0x35#8, 0x36#8, 0x37#8, 0x38#8, 0x39#8] = 0x29B1#16 := by decide +kernel

/-- R99: the check of the nine characters 123456789 under x^8 + x^5 + x^4 + 1 is A1. -/
theorem test_crc8_check :
    crc8 [0x31#8, 0x32#8, 0x33#8, 0x34#8, 0x35#8, 0x36#8, 0x37#8, 0x38#8, 0x39#8] = 0xA1#8 := by decide +kernel

/-- R77: a corner slot has two neighbours in NEAR and six in SHELF. -/
theorem test_zone_sizes : zoneOf .near 0 = [1, 6] ∧ (zoneOf .shelf 0).length = 6 ∧ zoneOf .near 7 = [1, 6, 8, 13] ∧
    (zoneOf .shelf 7).length = 7 ∧ zoneOf .near 23 = [17, 22] := by decide

/-- R106 under the default profile: 39.75 degrees is COLD, 40 is band 0, 77.5 and above is band 15. -/
theorem test_factors : Profile.default.factor 159 = 0 ∧ Profile.default.factor 160 = 11 ∧ Profile.default.factor 169 = 11 ∧
    Profile.default.factor 170 = 13 ∧ Profile.default.factor 310 = 152 ∧ Profile.default.factor 500 = 152 := by decide

/-- R105: steps are rounded away from zero. -/
theorem test_filter_rounds : filterTemp 2 none 100 = 100 ∧ filterTemp 2 (some 100) 101 = 101 ∧
    filterTemp 2 (some 100) 99 = 99 ∧ filterTemp 2 (some 100) 105 = 102 ∧ filterTemp 8 (some 100) 140 = 140 := by decide

/-- R103: a corrected reading is clamped to -40 and 125 degrees. -/
theorem test_clamp : clampTemp (-161) = -160 ∧ clampTemp 501 = 500 ∧ clampTemp 77 = 77 := by decide

/-- R24: a deadline past the maximum is held there. -/
theorem test_deadline : RackTime.deadlineAfter ⟨4294967235, 7⟩ 1 = ⟨4294967295, 7⟩ ∧
    RackTime.deadlineAfter ⟨4294967236, 7⟩ 1 = ⟨4294967295, 999⟩ := by decide

/-- R18: rack time carries at 999 milliseconds and holds at its maximum. -/
theorem test_time_next : RackTime.next ⟨5, 999⟩ = ⟨6, 0⟩ ∧ RackTime.next ⟨5, 998⟩ = ⟨5, 999⟩ ∧
    RackTime.next ⟨4294967295, 999⟩ = ⟨4294967295, 999⟩ := by decide

/-- R155, R156: the worst bin with its first reason; a disturbed test with a SCRAP measure is SCRAP for the measure. -/
theorem test_grade :
    gradeOf ⟨none, [⟨true, false⟩], 0, tset (Vector.replicate 8 none) 2 (some 31),
      some ⟨tset (Vector.replicate 8 none) 2 (some ⟨10, 20, 30, true⟩), 0⟩⟩ = (.scrap, .measure 2) ∧
    gradeOf ⟨none, [⟨true, true⟩], 1919, Vector.replicate 8 none,
      some ⟨tset (Vector.replicate 8 none) 2 (some ⟨10, 20, 30, true⟩), 1⟩⟩ = (.rework, .disturbed) ∧
    gradeOf ⟨none, [⟨true, false⟩], 1920, Vector.replicate 8 none, some ⟨Vector.replicate 8 none, 1⟩⟩ = (.b, .overtime) ∧
    gradeOf ⟨some .driveFail, [⟨true, true⟩], 0, Vector.replicate 8 none, none⟩ = (.scrap, .fault .driveFail) ∧
    gradeOf ⟨none, [], 0, Vector.replicate 8 none, none⟩ = (.a, .none) := by decide

/-- R6: the arguments of a frame, most significant byte first, signed values in two's complement. -/
theorem test_decode_request :
    decodeRequest .line 0x05 [0#8, 0#8, 1#8, 2#8, 3#8, 0xE7#8] = some (.setTime 258 999) ∧
    decodeRequest .line 0x2A [3#8, 0xE0#8] = some (.setOffset 3 (-32)) ∧
    decodeRequest .test 0x18 [3#8, 2#8, 65#8, 66#8] = some (.setSerial 3 [65#8, 66#8]) ∧
    decodeRequest .test 0x18 [3#8, 2#8, 65#8] = none ∧
    decodeRequest .test 0x10 [] = none := by decide

/-! ### A live state -/

/-- A recipe of two stages, the second sensitive and suspendable, with one required limit. -/
def recipe : Recipe :=
  { header := ⟨7, 1, [65#8], 0⟩
    stages := [⟨.soak, false, false, some 1, .always, 0, none, none⟩,
      ⟨.check, true, true, none, .activeOnly, 1, some 5, some 400⟩]
    limits := tset (Vector.replicate 8 none) 0 (some ⟨10, 20, 30, true⟩) }

/-- A drive in its slot, in the given state. -/
def seated (q : SlotState) : SlotRecord :=
  { SlotRecord.reset with state := q, present := true, closed := true, loadedAt := some ⟨1, 0⟩ }

/-- A drive that runs the sensitive stage of the recipe in block 1, asked to be quiet. -/
def running : SlotRecord :=
  { seated .running with
    recipe := some ⟨1, 7, 1, 2⟩, stage := 1, quiet := .asked, marks := [⟨false, false⟩, ⟨false, false⟩]
    context := some ⟨.check, true, true, none, .activeOnly, 1, some ⟨400, 0⟩, some 400⟩
    startedAt := some ⟨2, 0⟩, serial := some [66#8] }

/-- A graded drive. -/
def graded (q : SlotState) (g : Bin) : SlotRecord :=
  { seated q with
    grade := some (g, .none), finishedAt := some ⟨3, 0⟩, patchGen := some 0, startedAt := some ⟨2, 0⟩
    serial := some [BitVec.ofNat 8 (67 + g.code)] }

/-- A state in which much is under way: slot 5 LOADED, 6 RUNNING and ASKED for the PENDING access of slot 7, 9 UNLOAD with its
position reserved, 10 waiting for dispatch, 12 READY, 13 and 14 spinning up on one lane, block 1 WRITTEN and locked in
PRODUCTION, a deadline armed, a notice pending, and QUIET taken on the test link. -/
def live : State :=
  { State.reset with
    rck := { Rck.reset with
      time := ⟨100, 5⟩, unset := false, osc := 5000, watch := tset Rck.reset.watch 6 (some ⟨⟨400, 0⟩, 1⟩) }
    slots := tset (tset (tset (tset (tset (tset (tset State.reset.slots 5 (seated .loaded)) 6 running) 9 (graded .unload .a))
      10 (graded .dispatchWait .b)) 12 { seated .ready with serial := some [65#8] }) 13 (seated .spinUpWait))
      14 (seated .spinUp)
    psq := { Psq.reset with
      slots := tset (tset (tset (tset Psq.reset.slots 6 ⟨.on, true, none⟩) 12 ⟨.on, true, none⟩) 13 ⟨.queued, false, none⟩)
        14 ⟨.spinUp, true, some 9000⟩
      queue := [13], lanes := 1, budget := 1 }
    qac := { Qac.reset with
      records := tset Qac.reset.records 0 (.pending ⟨7, .load, [1, 6, 8, 13], ⟨99, 0⟩, some 6000⟩)
      holds := tof fun i => if i ∈ [1, 6, 8, 13] then 1 else 0 }
    tau := { Tau.reset with contexts := tset Tau.reset.contexts 6 ⟨some 200, 0, 0, false⟩ }
    rst := { State.reset.rst with
      blocks := tset State.reset.rst.blocks 1 ⟨.written, true, some recipe, 1⟩, mode := .production }
    ttb := { Ttb.reset with
      totes := tset Ttb.reset.totes 0 (.opened ⟨70, .a, [.reserved 9, .empty]⟩)
      queues := tset Ttb.reset.queues 1 [10]
      notes := tset (tset Ttb.reset.notes 9 (some (7, 1))) 10 (some (7, 1)) }
    testLink := { LinkState.reset .test with
      held := some (.passed (.quiet 6)), notices := [(.quietAsk, 6)], attention := true }
    pending := [.quiet 6] }

/-! ### The laws hold in the live state -/

theorem live_links : LinkLaws .test live.testLink ∧ LinkLaws .handler live.handlerLink ∧ LinkLaws .line live.lineLink := by
  refine ⟨?_, ?_, ?_⟩ <;> constructor <;> decide +kernel

theorem live_holds : HoldLaws live := by
  constructor <;> decide +kernel

theorem live_clock : ClockLaws live := by
  constructor
  · exact ⟨by decide, by decide⟩
  all_goals decide +kernel

theorem live_inputs : InputLaws live.sif := by
  constructor <;> decide +kernel

theorem live_power : PowerLaws live.psq := by
  constructor <;> decide +kernel

theorem live_idle (i : Slot) (h : i ≠ 6) : (live.slot i).context = none := by
  revert i; decide +kernel

theorem live_records (i : Slot) : RecordLaws (live.slot i) := by
  constructor <;> try (revert i; decide +kernel)
  intro c hc
  by_cases h : i = 6
  · subst h
    have e : (live.slot 6).context = some ⟨.check, true, true, none, .activeOnly, 1, some ⟨400, 0⟩, some 400⟩ := by
      decide +kernel
    rw [e, Option.mem_some_iff] at hc
    subst hc
    exact ⟨by decide +kernel, by decide +kernel⟩
  · rw [live_idle i h] at hc; cases hc

theorem live_unfilled (t : ToteNo) (b : ToteBody) (h : (live.tote t).body? = some b) : b.positions.any Position.isFilled = false := by
  have : ∀ t, ∀ b ∈ (live.tote t).body?, b.positions.any Position.isFilled = false := by decide +kernel
  exact this t b h

theorem live_serials : SerialLaws live := by
  constructor
  · decide +kernel
  · decide +kernel
  · intro t u p q cs h
    exfalso
    unfold Tote.serialAt? at h
    cases hb : (live.tote t).body? with
    | none => simp [hb] at h
    | some b =>
      have hu := live_unfilled t b hb
      rw [List.any_eq_false] at hu
      simp only [hb, Option.bind_some] at h
      split at h
      · next e he => exact hu _ (List.mem_of_getElem? he) rfl
      · cases h

theorem live_quiet : QuietLaws live := by
  constructor <;> decide +kernel

theorem live_thermal : ThermalLaws live.tau := by
  constructor <;> decide +kernel

theorem recipe_legal : recipe.Legal := by
  constructor <;> decide

theorem live_written : ∀ b, ∀ r ∈ (tget live.rst.blocks b).written?, b = 1 ∧ r = recipe := by decide +kernel

theorem live_store : StoreLaws live.rst := by
  constructor <;> try decide +kernel
  · intro b r hr
    rw [(live_written b r hr).2]; exact recipe_legal
  all_goals
    intro o ho
    cases ho

theorem live_references : ReferenceLaws live := by
  constructor <;> try decide +kernel
  · intro i ref hr
    have h : ∀ i, ∀ ref ∈ (live.slot i).recipe, ref = ⟨1, 7, 1, 2⟩ := by decide +kernel
    rw [h i ref hr]
    exact ⟨recipe, by decide +kernel, rfl, rfl, rfl⟩
  all_goals
    intro a ha
    cases ha

theorem live_patches : PatchLaws live := by
  constructor
  · intro h; cases h
  · decide

theorem live_totes : ToteLaws live := by
  constructor <;> try decide +kernel
  all_goals
    intro g
    cases g <;> decide +kernel

/-- Every law of the part holds in the live state: the hypothesis `Lawful` of the statements is met by a state in which slots,
accesses, totes, a recipe and a request are all in use. -/
theorem test_witness_lawful : Lawful live :=
  ⟨live_links.1, live_links.2.1, live_links.2.2, live_holds, live_clock, live_inputs, live_power, live_records, live_serials,
    live_quiet, live_thermal, live_store, live_references, live_patches, live_totes⟩

/-- In PRODUCTION, with block 1 locked, a step runs: the hypotheses of `ProductionKeepsLockedBlocks`. -/
theorem test_witness_production : live.rst.mode = .production ∧ (live.block 1).locked = true ∧ ∃ t, step live = .next t :=
  ⟨by decide +kernel, by decide +kernel, _, rfl⟩

/-! ### Requests -/

/-- The state after a command, as every command answers a next state. -/
def run (c : Instr) (s : State) : State :=
  match exec c s with
  | .next t => t
  | _ => s

/-- The state with a request taken on its link and passed to its owning block. -/
def take (c : Instr) (s : State) : State :=
  match requestLink c with
  | some l => s.setLink l { s.link l with held := some (.passed c), output := [] }
  | none => s

/-- Every request can be ready: the hypothesis `Ready` of the statements is met on every link, whatever the rest holds. -/
theorem test_witness_ready (c : Instr) (l : Link) (s : State) (h : requestLink c = some l) : (take c s).Ready l c := by
  simp [take, h, State.Ready, Config.outputDepth]

/-- The response code a request is answered with; 99 while it stays held. -/
def code (c : Instr) (s : State) : Nat :=
  match requestLink c with
  | some l => match ((run c (take c s)).link l).output with
    | f :: _ => (f.getD 3 0#8).toNat
    | [] => 99
  | none => 98

/-- The payload a request is answered with. -/
def payload (c : Instr) (s : State) : List Byte :=
  match requestLink c with
  | some l => ((((run c (take c s)).link l).output.headD []).drop 4).dropLast.dropLast
  | none => []

/-- Codes of Section 1: 0 DONE, 4 RANGE. GRANT (11) is not recorded on the test link. -/
theorem test_codes_links :
    [code (.setMask .test 15) live, code (.setMask .test 16) live, code (.takeNotice .test) live, code (.readClock .line) live,
      code (.setLevels .test [(1, 0), (2, 15)]) live, code (.setLevels .test []) live, code (.setLevels .test [(1, 16)]) live,
      code (.setLevels .test [(0, 1)]) live, code (.setLevels .test [(19, 1)]) live, code (.setLevels .test [(11, 1)]) live,
      code (.setLevels .test [(1, 1), (1, 2)]) live, code .rackReset live] = [0, 4, 0, 0, 0, 4, 4, 4, 4, 4, 4, 0] := by
  decide +kernel

/-- Codes of Sections 2 and 3; POWER OFF of a slot in SPINUP stays held. -/
theorem test_codes_clock_and_power :
    [code (.setTime 4294967295 999) live, code (.setTime 0 1000) live, code (.setTime 4294967296 0) live,
      code (.powerOn 5) live, code (.powerOn 6) live, code (.powerOn 24) live, code (.powerOff 14) live,
      code (.powerOff 5) live, code (.powerOff 24) live, code (.setPower 1 2 2) live, code (.setPower 8 30 30) live,
      code (.setPower 0 2 2) live, code (.setPower 9 2 2) live, code (.setPower 1 1 2) live, code (.setPower 1 2 31) live,
      code (.setInputs 3 1 1) live, code (.setInputs 4 0 0) live, code (.setInputs 0 2 0) live, code (.setInputs 0 0 2) live]
    = [0, 4, 4, 0, 2, 4, 99, 2, 4, 0, 0, 4, 4, 4, 4, 0, 4, 4, 4] := by decide +kernel

/-- Codes of Section 4: slot 5 LOADED, 6 RUNNING its last stage, 7 EMPTY, 12 READY with a serial; B is slot 6's serial. -/
theorem test_codes_slots :
    [code (.setSerial 5 [90#8]) live, code (.setSerial 5 (List.replicate 20 126#8)) live, code (.setSerial 5 [66#8]) live,
      code (.setSerial 5 []) live, code (.setSerial 5 (List.replicate 21 65#8)) live, code (.setSerial 5 [31#8]) live,
      code (.setSerial 7 [90#8]) live, code (.setSerial 24 [90#8]) live, code (.start 12 7) live, code (.start 12 0) live,
      code (.start 5 7) live, code (.start 24 7) live, code (.advance 6) live, code (.advance 5) live, code (.advance 24) live,
      code (.measure 6 7 4294967295) live, code (.measure 6 8 0) live, code (.measure 5 0 0) live, code (.finish 6) live,
      code (.finish 24) live, code (.abort 5 0) live, code (.abort 12 1) live, code (.abort 7 0) live, code (.abort 5 2) live,
      code (.readSlot .line 23) live, code (.readSlot .line 24) live]
    = [0, 0, 10, 4, 4, 4, 2, 4, 99, 4, 2, 4, 0, 2, 4, 0, 4, 2, 2, 4, 0, 0, 2, 4, 0, 4] := by decide +kernel

/-- Codes of Section 5; the access of slot 7 is PENDING as record 0. -/
theorem test_codes_access :
    [code (.accessRequest 0 0) live, code (.accessRequest 9 1) live, code (.accessRequest 7 0) live,
      code (.accessRequest 5 0) live, code (.accessRequest 24 0) live, code (.accessRequest 0 2) live,
      code (.accessRequest 1 0) (run (.accessRequest 0 0) (take (.accessRequest 0 0) live)), code (.accessCancel 0) live,
      code (.accessCancel 1) live, code (.accessCancel 2) live, code (.accessDone 0 0) live, code (.accessDone 2 0) live,
      code (.accessDone 0 2) live, code (.quiet 6) live, code (.quiet 5) live, code (.quiet 24) live,
      code (.setQuiet 1 60 120) live, code (.setQuiet 1 60 120) State.reset, code (.setQuiet 2 1 5) State.reset,
      code (.setQuiet 0 61 5) State.reset, code (.setQuiet 0 1 4) State.reset]
    = [0, 0, 2, 2, 4, 4, 8, 0, 2, 4, 2, 4, 4, 0, 9, 4, 2, 0, 4, 4, 4] := by decide +kernel

/-- A change of presence on its way to SSQ. -/
def arriving (i : Slot) (level startUp : Bool) (s : State) : State :=
  s.setMail i { s.mailOf i with presenceToSsq := [⟨level, ⟨99, 0⟩, startUp⟩] }

/-- The place of an unload's reservation, and of a load (R81). -/
theorem test_access_place : payload (.accessRequest 9 1) live = [1#8, 2#8, 0#8, 1#8] ∧
    payload (.accessRequest 0 0) live = [1#8, 1#8, 255#8, 0#8] := by decide +kernel

/-- `AccessRequestsTakeARecord`: an access that would be granted at once waits while SSQ or QAC alone has served a presence
change of its target (R94); a PENDING one does not wait. -/
theorem test_witness_access_waits :
    (arriving 9 true false live).zoneClear (zoneOf .near 9) = true ∧ code (.accessRequest 9 1) (arriving 9 true false live) = 99 ∧
    code (.accessRequest 0 0) (arriving 0 true false live) = 0 := by decide +kernel

/-- Codes of Section 6; profile 1 is in use by slot 6. -/
theorem test_codes_thermal :
    [code (.setScan 10 8) live, code (.setScan 0 1) live, code (.setScan 11 1) live, code (.setScan 1 9) live,
      code (.setOffset 23 31) live, code (.setOffset 0 (-32)) live, code (.setOffset 0 32) live, code (.setOffset 24 0) live,
      code (.setProfile 0 (-160) 4 (List.replicate 16 255)) live, code (.setProfile 1 0 4 (List.replicate 16 0)) live,
      code (.setProfile 2 0 4 (List.replicate 16 0)) live, code (.setProfile 0 501 4 (List.replicate 16 0)) live,
      code (.setProfile 0 0 41 (List.replicate 16 0)) live, code (.setProfile 0 0 4 (List.replicate 16 256)) live]
    = [0, 4, 4, 4, 0, 0, 4, 4, 0, 6, 4, 4, 4, 4] := by decide +kernel

/-- The live state in ENGINEERING, with the recipe staged under revision 2. -/
def staged : State :=
  { live with rst := { live.rst with
    mode := .engineering
    staging := ⟨some { recipe.header with revision := 2 },
      tset (tset (Vector.replicate 16 none) 0 recipe.stages[0]?) 1 recipe.stages[1]?, recipe.limits⟩ } }

/-- The staged state with a running operation. -/
def busy (w : Work) (explicit fetch : Bool) : State :=
  { staged with rst := { staged.rst with running := some ⟨w, false, explicit, fetch⟩ } }

/-- The staged state with a suspended ERASE of block 3. -/
def halted : State :=
  { staged with rst := { staged.rst with
    suspended := some (.erase 3), blocks := tset staged.rst.blocks 3 ⟨.invalid, false, none, 0⟩ } }

/-- A stored failure. -/
def failedOnce : State := { staged with rst := { staged.rst with error := some (.eraseFailed, 4) } }

/-- Codes of staging and of the store's flags. -/
theorem test_codes_store_flags :
    [code (.stageHeader 1 1 [65#8] 0) live, code (.stageHeader 65535 255 (List.replicate 16 126#8) 65535) live,
      code (.stageHeader 0 1 [65#8] 0) live, code (.stageHeader 1 0 [65#8] 0) live, code (.stageHeader 1 1 [] 0) live,
      code (.stageStep 15 2 1 1 ⟨1, 65535⟩ 1 1 ⟨1, 10080⟩ ⟨1, -160⟩) live,
      code (.stageStep 16 2 1 1 ⟨0, 0⟩ 1 1 ⟨0, 0⟩ ⟨0, 0⟩) live, code (.stageStep 0 3 1 1 ⟨0, 0⟩ 1 1 ⟨0, 0⟩ ⟨0, 0⟩) live,
      code (.stageStep 0 2 1 1 ⟨1, 0⟩ 1 1 ⟨0, 0⟩ ⟨0, 0⟩) live, code (.stageStep 0 2 1 1 ⟨2, 1⟩ 1 1 ⟨0, 0⟩ ⟨0, 0⟩) live,
      code (.stageStep 0 2 1 1 ⟨0, 0⟩ 1 1 ⟨1, 10081⟩ ⟨0, 0⟩) live, code (.stageLimits 7 1 2 3 1) live,
      code (.stageLimits 8 1 2 3 1) live, code (.stageLimits 0 1 2 3 2) live, code .lockOverride live,
      code .lockOverride staged, code (.setStoreMode 1) staged, code (.setStoreMode 0) staged, code (.setStoreMode 2) staged,
      code (.setStoreMode 1) halted, code (.setFetchPriority 1) live, code (.setFetchPriority 2) live, code .clearStoreStatus live]
    = [0, 0, 4, 4, 4, 0, 4, 4, 4, 4, 4, 0, 4, 4, 12, 0, 0, 12, 4, 7, 0, 4, 0] := by decide +kernel

/-- The check order of the store operations (R120). -/
theorem test_codes_store_operations :
    [code (.program 0) staged, code (.program 0) live, code (.program 1) staged, code (.program 32) staged,
      code (.program 0) failedOnce, code (.program 0) halted, code (.program 0) (busy (.erase 3) false false),
      code (.erase 1) live, code (.erase 1) { live with rst := { live.rst with lockOverride := true } },
      code (.erase 0) live, code (.erase 32) live, code (.erase 0) halted, code (.erase 0) failedOnce,
      code (.blankCheck 0) live, code (.blankCheck 1) live, code (.blankCheck 0) halted, code (.blankCheck 0) failedOnce,
      code (.lock 1) live, code (.lock 0) live, code (.lock 1) halted,
      code (.lock 1) { live with rst := { live.rst with blocks := tset live.rst.blocks 1 ⟨.written, false, some recipe, 1⟩ } },
      code .storeClear live, code .storeClear State.reset, code .storeClear halted]
    = [1, 14, 2, 4, 11, 1, 7, 5, 6, 1, 4, 7, 11, 1, 2, 7, 11, 2, 2, 7, 1, 6, 1, 7] := by decide +kernel

/-- A recipe that a WRITTEN block holds is refused DUPLICATE (R121). -/
theorem test_program_duplicate :
    code (.program 0) { staged with rst := { staged.rst with
      staging := { staged.rst.staging with header := some recipe.header } } } = 10 := by decide +kernel

/-- SUSPEND, RESUME, STOP and the reads of the store. -/
theorem test_codes_store_control :
    [code .suspend (busy (.erase 3) false false), code .suspend (busy (.erase 3) true false), code .suspend staged,
      code .suspend (busy (.lock 1) false false), code .resume halted, code .resume staged,
      code .resume { halted with rst := { halted.rst with running := some ⟨.program 4 recipe, true, false, false⟩ } },
      code .stop halted, code .stop (busy (.erase 3) false true), code .stop staged,
      code (.readRecipe 1 0) live, code (.readRecipe 1 1) live, code (.readRecipe 1 2) live, code (.readRecipe 0 0) live,
      code (.readRecipe 32 0) live, code (.readRecipe 1 3) live, code (.readRecipe 1 0) (busy (.lock 1) false false),
      code .readStore live]
    = [1, 2, 2, 2, 1, 2, 7, 0, 0, 2, 0, 0, 0, 2, 4, 4, 7, 0] := by decide +kernel

/-- A channel that does nothing. -/
def idleChannel : Channel := ⟨false, 0, .minCredit, 0⟩

/-- The patch unit in EDIT, its channel 0 patching limit A of measure 0 in block 1 to the given value. -/
def edit (c0 c1 : Channel) : State :=
  { live with pcu := { Pcu.reset with unit := .edit, channels := tset (tset Pcu.reset.channels 0 c0) 1 c1 } }

/-- Codes of Section 8: CONFLICT for two channels on one target, INVALID_RECIPE for a threshold out of order, an absent field
or a value out of range. -/
theorem test_codes_patches :
    [code .patchEdit live, code .patchWithdraw live, code (.patchSet 3 1 31 1 15 2 4294967295) (edit idleChannel idleChannel),
      code (.patchSet 0 1 0 0 0 0 0) live, code (.patchSet 4 1 0 0 0 0 0) live, code (.patchSet 0 1 0 2 0 1 0) live,
      code .patchApply live, code .patchApply (edit ⟨true, 1, .limit 0 .a, 20⟩ idleChannel),
      code .patchApply (edit ⟨true, 1, .limit 0 .a, 20⟩ ⟨true, 1, .limit 0 .a, 10⟩),
      code .patchApply (edit ⟨true, 1, .limit 0 .a, 21⟩ idleChannel), code .patchApply (edit ⟨true, 1, .limit 1 .a, 0⟩ idleChannel),
      code .patchApply (edit ⟨true, 1, .stage 1 .deadline, 10081⟩ idleChannel),
      code .patchApply (edit ⟨true, 1, .stage 1 .maxTemp, 4294967136⟩ idleChannel),
      code .patchApply (edit ⟨true, 0, .minCredit, 1⟩ idleChannel)]
    = [0, 0, 0, 2, 4, 4, 2, 0, 13, 14, 14, 14, 0, 14] := by decide +kernel

/-- Codes of Section 10; record 0 is OPEN for bin A with a reservation, and a drive of bin B waits. -/
theorem test_codes_totes :
    [code (.openTote 1 1 40) live, code (.openTote 1 0 1) live, code (.openTote 1 4 1) live, code (.openTote 1 1 0) live,
      code (.openTote 1 1 41) live, code (.openTote 4294967296 1 1) live, code (.closeTote 0) live, code (.closeTote 1) live,
      code (.closeTote 8) live, code (.releaseTote 0) live, code (.releaseTote 8) live, code (.readTote .line 0 0) live,
      code (.readTote .line 0 1) live, code (.readTote .line 0 2) live, code (.readTote .line 0 3) live,
      code (.readTote .line 1 0) live, code (.readTote .line 8 0) live, code (.readTote .line 0 41) live]
    = [0, 2, 4, 4, 4, 4, 7, 2, 4, 2, 4, 0, 0, 0, 4, 2, 4, 4] := by decide +kernel

/-- OPEN TOTE serves the wait queue of its bin: slot 10 gets the first position of record 1 (R166). -/
theorem test_open_tote : payload (.openTote 5 1 3) live = [1#8, 1#8] ∧
    (run (.openTote 5 1 3) (take (.openTote 5 1 3) live)).tote 1 = .opened ⟨5, .b, [.reserved 10, .empty, .empty]⟩ ∧
    ((run (.openTote 5 1 3) (take (.openTote 5 1 3) live)).slot 10).state = .unload := by decide +kernel

/-! ### Witnesses: states and operands that meet the hypotheses of each statement, clause by clause, and what the command does
there. The requests' hypotheses (`Ready`) are met by `take c s` for every state (`test_witness_ready`); the clauses of the
statements about requests are told apart by the codes above. -/

/-- `StepServesTheFrontCommand`. -/
theorem test_witness_queue : live.pending = .quiet 6 :: [] ∧ State.reset.pending = [] := by decide

/-- The state with its test link's receiver as given. -/
def receiving (r : Receiver) (at_ : Nat) : State :=
  live.setLink .test { live.testLink with receiver := r, lastByteAt := at_, held := none }

/-- `ReceiverFollowsItsStates`: the start byte, the greatest length and the first one refused, a byte of the body, and the
timeout at 20 ms and before it. -/
theorem test_witness_receiver :
    (run (.receivedByte .test 0xC3#8) (receiving .hunt 0)).testLink.receiver = .header ∧
    (run (.receivedByte .test 250#8) (receiving .header 0)).testLink.receiver = .body 250 [] ∧
    (run (.lengthFault .test 251#8) (receiving .header 0)).testLink.output = [responseFrame 0 .badFrame []] ∧
    (run (.receivedByte .test 251#8) (receiving .header 0)).testLink.output = [responseFrame 0 .badFrame []] ∧
    (run (.receivedByte .test 9#8) (receiving (.body 1 [7#8, 8#8]) 0)).testLink.receiver = .body 1 [7#8, 8#8, 9#8] ∧
    (run (.frameTimeout .test) (receiving (.body 1 [7#8, 8#8]) 4980)).testLink.output = [responseFrame 7 .badFrame []] ∧
    (run (.frameTimeout .test) (receiving (.body 1 []) 4980)).testLink.output = [responseFrame 0 .badFrame []] ∧
    (run (.frameTimeout .test) (receiving .header 4980)).testLink.output = [responseFrame 0 .badFrame []] ∧
    run (.frameTimeout .test) (receiving .header 4981) = receiving .header 4981 := by decide +kernel

/-- A frame: the start byte, the length, the request code, the payload and the CRC. -/
def frameOf (code : Byte) (payload : List Byte) : List Byte :=
  let body := BitVec.ofNat 8 payload.length :: code :: payload
  0xC3#8 :: body ++ be16 (crc16 body).toNat

/-- `CompleteFramesAreChecked`: QUIET 6 on the test link is held; with a false CRC, while another request is held, with an
unknown code, and with a byte missing, it is answered. -/
theorem test_witness_frames :
    (frameOf 0x20#8 [6#8]).length = 6 ∧ (receiving .hunt 0).testLink.receiver = .hunt ∧
    (run (.requestFrame .test (frameOf (BitVec.ofNat 8 (requestCode (.quiet 6))) [6#8])) (receiving .hunt 0)).testLink.held =
      some (.passed (.quiet 6)) ∧
    (run (.requestFrame .test [0xC3#8, 0#8, 1#8, 0#8, 0#8]) (receiving .hunt 0)).testLink.output =
      [responseFrame 1 .badFrame []] ∧
    (run (.requestFrame .test (frameOf 1#8 [])) live).testLink.output = [responseFrame 1 .overrun []] ∧
    (run (.requestFrame .test (frameOf 0xEE#8 [])) (receiving .hunt 0)).testLink.output = [responseFrame 0xEE .unknown []] ∧
    (run (.requestFrame .test (frameOf 0x5F#8 [])) (receiving .hunt 0)).testLink.output =
      [responseFrame 0x5F .notPermitted []] ∧
    (run (.requestFrame .test (frameOf (BitVec.ofNat 8 (requestCode (.quiet 6))) [])) (receiving .hunt 0)).testLink.output =
      [responseFrame (requestCode (.quiet 6)) .badFrame []] := by decide +kernel

/-- `ArgumentsDecodeAsEncoded`. -/
theorem test_witness_arguments : requestLink (.setOffset 3 (-32)) = some .line ∧ wellFormed (.setOffset 3 (-32)) = true ∧
    permitted (requestCode (.setOffset 3 (-32))) .line = true ∧ encodeArgs (.setOffset 3 (-32)) = [3#8, 0xE0#8] := by decide

/-- The line link with an output list and a held request. -/
def sending (output : List (List Byte)) (h : Option Held) : State :=
  live.setLink .line { live.lineLink with output := output, held := h }

/-- `ResponsesPassThroughTheOutputList`: a waiting response enters; the RACK RESET response makes the reset effect due. -/
theorem test_witness_output :
    (run (.responseSent .line) (sending [[1#8], [2#8], [3#8], [4#8]] (some (.answered [5#8])))).lineLink.output =
      [[2#8], [3#8], [4#8], [5#8]] ∧
    (run (.responseSent .line) (sending [responseFrame 0x5F .done []] none)).resetDue = true ∧
    (run (.responseSent .line) (sending [responseFrame 0x06 .done []] none)).resetDue = false ∧
    run (.responseSent .line) live = live := by decide +kernel

/-- `RequestsOnABusyLinkAreOverrun`: the test link holds QUIET 6; a request that the link does not permit; the line link holds
nothing, and SET MASK is served there. -/
theorem test_witness_overrun :
    live.testLink.held = some (.passed (.quiet 6)) ∧
    (run (.start 12 7) live).testLink.output = [responseFrame (requestCode (.start 12 7)) .overrun []] ∧
    (sending [] none).handlerLink.held = none ∧ permitted (requestCode (.readTote .test 0 0)) .test = false ∧
    (run (.readTote .test 0 0) (receiving .hunt 0)).testLink.output =
      [responseFrame (requestCode (.readTote .test 0 0)) .notPermitted []] ∧
    live.lineLink.held = none ∧ permitted (requestCode (.setMask .line 3)) .line = true ∧
    (run (.setMask .line 3) live).lineLink.mask = 3 := by decide +kernel

/-- `RefusedRequestsChangeNothing`, `TakeNoticeReturnsTheHighestPair`: ready, with no power-off order asked for; the set holds
one pair, or none. -/
theorem test_witness_requests :
    (take (.quiet 6) live).Ready .test (.quiet 6) ∧ (∀ i, ¬ (take (.quiet 6) live).offAsked i) ∧
    (take (.takeNotice .test) live).testLink.notices = [(.quietAsk, 6)] ∧
    payload (.takeNotice .test) live = [5#8, 6#8, 12#8, 0#8] ∧
    (take (.takeNotice .line) live).lineLink.notices = [] ∧ payload (.takeNotice .line) live = [0#8, 255#8, 0#8, 0#8] := by
  decide +kernel

/-- `PostedNoticesJoinTheirLinks`: a pair that joins, one the link holds already, and a kind it does not record. -/
theorem test_witness_posts : (live.post .loaded 5).testLink.notices = [(.quietAsk, 6), (.loaded, 5)] ∧
    (live.post .quietAsk 6).testLink.notices = [(.quietAsk, 6)] ∧ (live.post .grant 7).testLink.notices = [(.quietAsk, 6)] ∧
    (live.post .grant 7).handlerLink.attention = true := by decide +kernel

/-- `LinkLawsAreKept` and every other statement over the steps of a lawful state. -/
theorem test_witness_step : Lawful live ∧ ∃ t, step live = .next t := ⟨test_witness_lawful, _, rfl⟩

/-- `ClockAdvancesTicksAndFiresDeadlines`, `DeadlineExpiryMarksOvertime`: slot 6's deadline is armed for 400 s; it fires when
SET TIME reaches it, and then marks its stage; one of another stage is stale. -/
theorem test_witness_deadline :
    tget live.rck.watch 6 = some ⟨⟨400, 0⟩, 1⟩ ∧
    (let s := run (.setTime 400 0) (take (.setTime 400 0) live);
      (s.mailOf 6).deadlines = [⟨⟨400, 0⟩, 1⟩] ∧ tget s.rck.watch 6 = none ∧
      ((run (.deadlineExpiry 6) s).slot 6).marks = [⟨false, false⟩, ⟨true, false⟩]) ∧
    ((run (.setTime 399 999) (take (.setTime 399 999) live)).mailOf 6).deadlines = [] ∧
    ((run (.deadlineExpiry 6) (live.setMail 6 { Mail.empty with deadlines := [⟨⟨300, 0⟩, 0⟩] })).slot 6).marks =
      [⟨false, false⟩, ⟨false, false⟩] := by decide +kernel

/-- A tick delivered and served. -/
theorem test_witness_tick :
    (let s := run .rackTimeAdvance { live with rck := { live.rck with tickPhase := 999 } };
      s.ticks = 1 ∧ s.rck.tickPhase = 0 ∧ s.rck.time = ⟨100, 6⟩ ∧ ((run .accountingTick s).mailOf 23).credits = 1) ∧
    live.ticks = 0 := by decide +kernel

/-- The live state with every input one reading away from a change of level, its sample due. -/
def sampling : State :=
  { live with sif := { live.sif with presence := Vector.replicate 24 ⟨false, 2⟩, latch := Vector.replicate 24 ⟨false, 2⟩, startUpCount := 2 } }

/-- `SampleAcceptsAtTheThirdReading`: due, and not yet due; the inputs are active low. -/
theorem test_witness_sample :
    (let t := run (.sample (BitVec.ofNat 24 0xFFFFFE) (BitVec.ofNat 24 0xFFFFFD)) sampling;
      tget t.sif.presence 0 = ⟨true, 0⟩ ∧ tget t.sif.presence 1 = ⟨false, 0⟩ ∧
      (t.mailOf 0).presenceToSsq = [⟨true, ⟨100, 5⟩, true⟩] ∧ (t.mailOf 0).presenceToQac = [⟨true, ⟨100, 5⟩, true⟩] ∧
      (t.mailOf 1).latchToSsq = [⟨true, ⟨100, 5⟩, true⟩] ∧ (t.mailOf 1).latchToQac = [⟨true, ⟨100, 5⟩, true⟩]) ∧
    sampling.sif.lastSampleAt + sampling.sif.interval ≤ sampling.rck.osc ∧
    State.reset.rck.osc < State.reset.sif.lastSampleAt + State.reset.sif.interval := by decide +kernel

/-- `SpinUpsStartFromTheQueueHead`: a second lane lets slot 13 start. -/
theorem test_witness_lane : live.psq.queue.Nodup ∧
    (let t := State.lookAtQueue { live with psq := { live.psq with budget := 2 } };
      t.power 13 = ⟨.spinUp, true, some 17000⟩ ∧ t.psq.queue = [] ∧ (t.mailOf 13).reports = [.started]) := by decide +kernel

/-- `PowerOnAndPowerOff`: slot 5 is LOADED with its latch shut, its phase OFF and no order on its way. -/
theorem test_witness_power_on : (live.slot 5).state = .loaded ∧ (live.slot 5).closed = true ∧
    ¬ (take (.powerOn 5) live).offAsked 5 ∧
    ((State.runOrders 5 (live.mailOf 5).orders live).putSlot 5 { live.slot 5 with state := .spinUpWait }).power 5 =
      ⟨.off, false, none⟩ ∧
    (run (.powerOn 5) (take (.powerOn 5) live)).psq.queue = [13, 5] := by decide +kernel

/-- The live state with an order for a slot on its way. -/
def ordered (i : Slot) (o : PowerOrder) : State := live.setMail i { Mail.empty with orders := [o] }

/-- `PowerOrdersCutByPhase`: each order in the phases QUEUED, SPINUP, ON and OFF, the freed lane taken by the queue's head. -/
theorem test_witness_orders :
    ((run (.powerOffOrder 13) (ordered 13 (.powerOff false))).slot 13).state = .loaded ∧
    ((run (.powerOffOrder 14) (ordered 14 (.powerOff false))).slot 14).state = .spinDown ∧
    (run (.powerOffOrder 14) (ordered 14 (.powerOff false))).power 13 = ⟨.spinUp, true, some 17000⟩ ∧
    (run (.powerOffOrder 12) (ordered 12 (.powerOff true))).testLink.output = [responseFrame 0x11 .done []] ∧
    (run (.spinDownOrder 6) (ordered 6 .spinDown)).power 6 = ⟨.spinDown, false, some 13000⟩ ∧
    (run (.releaseOrder 14) (ordered 14 .release)).power 14 = ⟨.off, false, none⟩ ∧
    (run (.releaseOrder 5) (ordered 5 .release)).psq = live.psq := by decide +kernel

/-- The live state later, slot 12 spinning down. -/
def later : State :=
  { live with
    rck := { live.rck with osc := 9000 }
    psq := { live.psq with slots := tset live.psq.slots 12 ⟨.spinDown, false, some 9000⟩ }
    slots := tset live.slots 12 { live.slot 12 with state := .spinDown } }

/-- `PowerTimersAndReports`: both timers due at 9000, not yet at 5000; each report in the state it calls for and in another. -/
theorem test_witness_timers :
    (live.power 14).timer = some 9000 ∧ run (.spinUpTimerExpiry 14) live = live ∧
    ((run (.spinUpTimerExpiry 14) later).mailOf 14).reports = [.spunUp] ∧
    ((run (.spinDownTimerExpiry 12) later).mailOf 12).reports = [.spunDown] ∧
    ((run (.spinUpStartReport 13) (live.setMail 13 { Mail.empty with reports := [.started] })).slot 13).state = .spinUp ∧
    ((run (.spinUpExpiry 14) (live.setMail 14 { Mail.empty with reports := [.spunUp] })).slot 14).state = .ready ∧
    ((run (.spinUpExpiry 5) (live.setMail 5 { Mail.empty with reports := [.spunUp] })).slot 5).state = .loaded ∧
    ((run (.spinDownExpiry 12) (later.setMail 12 { Mail.empty with reports := [.spunDown] })).slot 12).state = .loaded := by
  decide +kernel

/-- `TestRequestsOfASlot`: slot 6 in its last stage, with no credit target, ends its test; in stage 0 it fetches stage 1. -/
theorem test_witness_advance :
    (live.slot 6).recipe = some ⟨1, 7, 1, 2⟩ ∧ payload (.advance 6) live = [6#8, 1#8, 0#8] ∧
    (let s := live.putSlot 6 { live.slot 6 with stage := 0 };
      (run (.advance 6) (take (.advance 6) s)).fetch = .sent (.stage 6 1 1)) ∧
    (let s := live.putSlot 6 { live.slot 6 with state := .complete, quiet := .normal };
      (run (.finish 6) (take (.finish 6) s)).fetch = .sent (.limits 6 1)) := by decide +kernel

/-- A fetch answered, with the request it serves held. -/
def answeredFetch (f : Fetch) (r : FetchResult) (s : State) : State :=
  ({ s with fetch := .answered f r }).setLink .test { s.testLink with held := some (.serving f.request) }

/-- `FetchAnswersServeTheirRequests`: each fetch answered BUSY and with data, in the state of its request and in another. -/
theorem test_witness_answers :
    ((run .startFetchAnswer (answeredFetch (.start 12 7) (.start 1 1 2 ⟨.soak, false, false, some 1, .always, 0, none, none⟩)
      live)).slot 12).state = .running ∧
    ((run .startFetchAnswer (answeredFetch (.start 5 7) (.start 1 1 2 ⟨.soak, false, false, some 1, .always, 0, none, none⟩)
      live)).block 1).refs = 0 ∧
    (run .startFetchAnswer (answeredFetch (.start 12 7) .busy live)).testLink.output = [responseFrame 0x19 .busy []] ∧
    ((run .stageFetchAnswer (answeredFetch (.stage 6 1 1) (.stage ⟨.check, true, true, none, .activeOnly, 1, some 5, none⟩)
      live)).slot 6).context.bind (·.deadline) = some ⟨400, 5⟩ ∧
    (let s := live.putSlot 6 { live.slot 6 with state := .complete, quiet := .normal };
      let t := run .limitsFetchAnswer (answeredFetch (.limits 6 1) (.limits recipe.limits 0 0) s);
      (t.slot 6).grade = some (.rework, .missing 0) ∧ (t.slot 6).state = .spinDown ∧ (t.block 1).refs = 0 ∧
      (t.mailOf 6).orders = [.spinDown]) := by decide +kernel

/-- `FaultsGradeTheDrive`: an overtemperature event at a RUNNING slot and at another; ABORT of a LOADED and of a READY drive. -/
theorem test_witness_faults :
    (let t := run (.overtempEvent 6) (live.setMail 6 { Mail.empty with overtemps := 1 });
      (t.slot 6).grade = some (.rework, .fault .overtemp) ∧ (t.slot 6).state = .spinDown ∧ (t.block 1).refs = 0) ∧
    (run (.overtempEvent 12) (live.setMail 12 { Mail.empty with overtemps := 1 })).slots = live.slots ∧
    payload (.abort 5 0) live = [2#8, 1#8, 4#8] ∧ payload (.abort 12 1) live = [3#8, 1#8, 5#8] := by decide +kernel

/-- The live state with the load of slot 7 GRANTED, slot 6 being QUIET. -/
def grantedLoad (i : Slot) (a : Machine.Action) (timer : Option Nat) : State :=
  { live with
    slots := tset live.slots 6 { live.slot 6 with quiet := .quiet }
    qac := { live.qac with
      records := tset live.qac.records 0 (.granted ⟨i, a, zoneOf .near i, ⟨99, 0⟩, timer⟩ (live.slot i).present false)
      holds := tof fun j => if j ∈ zoneOf .near i then 1 else 0 } }

/-- A change of latch on its way to SSQ. -/
def latching (i : Slot) (level : Bool) : State :=
  live.setMail i { Mail.empty with latchToSsq := [⟨level, ⟨99, 0⟩, false⟩], latchToQac := [⟨level, ⟨99, 0⟩, false⟩] }

/-- `InputChangesAtTheSlot`: an arrival that is ungranted, at start-up, under a grant, and in a slot in use. -/
theorem test_witness_arrivals :
    ((run (.presencePresentAtSsq 7) (arriving 7 true false live)).slot 7).ungranted = true ∧
    (let t := run (.presencePresentAtSsq 7) (arriving 7 true true live);
      (t.slot 7).ungranted = false ∧ (t.slot 7).state = .loaded) ∧
    (let t := run (.presencePresentAtSsq 7) (arriving 7 true false (grantedLoad 7 .load none));
      (t.slot 7).present = true ∧ (t.slot 7).state = .empty) ∧
    ((run (.presencePresentAtSsq 5) (arriving 5 true false live)).slot 5).state = .loaded := by decide +kernel

/-- `InputChangesAtTheSlot`: a drive lost in UNLOAD and in DISPATCH_WAIT, one taken under its grant, and an EMPTY slot. -/
theorem test_witness_departures :
    (let t := run (.presenceAbsentAtSsq 9) (arriving 9 false false live);
      (t.slot 9).state = .empty ∧ (t.mailOf 9).orders = [.release] ∧
      t.tote 0 = .opened ⟨70, .a, [.empty, .empty]⟩) ∧
    (run (.presenceAbsentAtSsq 10) (arriving 10 false false live)).waitQueue .b = [] ∧
    (let t := run (.presenceAbsentAtSsq 9) (arriving 9 false false (grantedLoad 9 .unload none));
      (t.slot 9).state = .unload ∧ (t.slot 9).present = false) ∧
    ((run (.presenceAbsentAtSsq 7) (arriving 7 false false live)).slot 7).state = .empty := by decide +kernel

/-- `InputChangesAtTheSlot`: the latch of a waiting, a spinning, a powered and a LOADED slot. -/
theorem test_witness_latches :
    ((run (.latchOpenAtSsq 13) (latching 13 false)).mailOf 13).orders = [.powerOff false] ∧
    ((run (.latchOpenAtSsq 14) (latching 14 false)).slot 14).grade = some (.rework, .fault .latchOpen) ∧
    ((run (.latchOpenAtSsq 6) (latching 6 false)).mailOf 6).orders = [.spinDown] ∧
    ((run (.latchOpenAtSsq 5) (latching 5 false)).slot 5).state = .loaded ∧
    ((run (.latchClosedAtSsq 7) (latching 7 true)).slot 7).closed = true ∧
    ((run (.latchClosedAtSsq 7) (latching 7 true)).mailOf 7).latchToQac = [] := by decide +kernel

/-- Slot 6's quiet state and hold count as given, with one of each order on its way. -/
def quieted (q : QuietState) (holds : Nat) : State :=
  { live with
    slots := tset live.slots 6 { live.slot 6 with quiet := q }
    qac := { live.qac with holds := tset live.qac.holds 6 holds }
    mail := tset live.mail 6 { Mail.empty with asks := 1, releases := 1, disturbances := 1 } }

/-- `QuietOrdersAtTheSlot`: each order where it applies and where it is stale. -/
theorem test_witness_quiet_orders :
    ((run (.askOrder 6) (quieted .normal 1)).slot 6).quiet = .asked ∧
    ((run (.askOrder 6) (quieted .normal 0)).slot 6).quiet = .normal ∧
    ((run (.askOrder 6) (quieted .quiet 1)).slot 6).quiet = .quiet ∧
    ((run (.releaseQuietOrder 6) (quieted .quiet 0)).slot 6).quiet = .normal ∧
    ((run (.releaseQuietOrder 6) (quieted .quiet 1)).slot 6).quiet = .quiet ∧
    ((run (.disturbanceOrder 6) (quieted .asked 1)).slot 6).marks = [⟨false, false⟩, ⟨false, true⟩] ∧
    ((run (.disturbanceOrder 6) (quieted .quiet 1)).slot 6).marks = [⟨false, false⟩, ⟨false, false⟩] ∧
    (live.mailOf 6).asks = 0 ∧ (live.mailOf 6).releases = 0 ∧ (live.mailOf 6).disturbances = 0 := by decide +kernel

/-- `AccessesEndAndReleaseTheirHolds`: a cancelled record's holds fall and a RELEASE order goes out; an unload placed fills its
position; one abandoned; a load placed; a DONE that waits on a presence change. -/
theorem test_witness_access_ends :
    (let t := run (.accessCancel 0) (take (.accessCancel 0) live);
      t.access 0 = .free ∧ t.holdCount 6 = 0 ∧ (t.mailOf 6).releases = 1) ∧
    (let s := (grantedLoad 9 .unload none).putSlot 9 { live.slot 9 with present := false };
      let t := run (.accessDone 0 0) (take (.accessDone 0 0) s);
      t.access 0 = .free ∧ (t.slot 9).state = .empty ∧
      t.tote 0 = .opened ⟨70, .a, [.filled ⟨some [67#8], 9, 7, 1, 0, .a, .none, 0, some ⟨3, 0⟩, ⟨100, 5⟩⟩, .empty]⟩) ∧
    payload (.accessDone 0 1) (grantedLoad 9 .unload none) = [0#8, 0#8, 0#8, 0#8, 99#8, 0#8, 0#8] ∧
    code (.accessDone 0 0) (grantedLoad 9 .unload none) = 2 ∧
    (let s := (grantedLoad 7 .load none).putSlot 7 { live.slot 7 with present := true, closed := true };
      let t := run (.accessDone 0 0) (take (.accessDone 0 0) s);
      (t.slot 7).state = .loaded ∧ (t.slot 7).ungranted = false) ∧
    code (.accessDone 0 0) (arriving 7 true false (grantedLoad 7 .load none)) = 99 := by decide +kernel

/-- `QuietAndSetQuiet`: slot 6 ASKED, QUIET and NORMAL. -/
theorem test_witness_quiet : code (.quiet 6) live = 0 ∧ code (.quiet 6) (quieted .quiet 1) = 0 ∧
    code (.quiet 6) (quieted .normal 1) = 9 ∧ ((run (.quiet 6) live).slot 6).quiet = .quiet := by decide +kernel

/-- `AccessEventsAtQac`: a report that grants, one that ends, one that leaves the record PENDING, one that waits on a half-served
presence change of the target, one of a zone slot that finds the target LOADED; both timers, due and not; a presence change that
disturbs and one that a grant explains. -/
theorem test_witness_access_events :
    (let s := (quieted .quiet 1).setMail 6 { Mail.empty with changes := 1 };
      (run (.slotChangeReport 6) s).access 0 = .granted ⟨7, .load, [1, 6, 8, 13], ⟨99, 0⟩, some 35000⟩ false false) ∧
    (let s := (live.putSlot 7 { seated .loaded with present := true }).setMail 7 { Mail.empty with changes := 1 };
      let t := run (.slotChangeReport 7) s;
      t.access 0 = .free ∧ t.handlerLink.notices = [(.accessEnded, 7)]) ∧
    (run (.slotChangeReport 6) (live.setMail 6 { Mail.empty with changes := 1 })).access 0 = live.access 0 ∧
    (let s := arriving 7 true false ((quieted .quiet 1).setMail 6 { Mail.empty with changes := 1 });
      s.grantWaits 0 6 = true ∧ run (.slotChangeReport 6) s = s) ∧
    (run (.slotChangeReport 6) (((quieted .quiet 1).putSlot 7 (seated .loaded)).setMail 6
      { Mail.empty with changes := 1 })).access 0 = .free ∧
    (run (.quietTimeoutExpiry 0) live).access 0 = live.access 0 ∧ (run (.quietTimeoutExpiry 0) later).access 0 = .free ∧
    (run (.holdLimitExpiry 0) (grantedLoad 7 .load (some 5000))).handlerLink.notices = [(.holdOverrun, 7)] ∧
    (run (.holdLimitExpiry 0) (grantedLoad 7 .load (some 5001))).handlerLink.notices = [] ∧
    (let s (v : State) := v.setMail 7 { Mail.empty with presenceToQac := [⟨true, ⟨99, 0⟩, false⟩] };
      ((run (.presenceChangeAtQac 7) (s live)).mailOf 8).disturbances = 1 ∧
      ((run (.presenceChangeAtQac 7) (s (grantedLoad 7 .load none))).mailOf 8).disturbances = 0) := by decide +kernel

/-- The live state in the midst of a scan, slot 6's context as given. -/
def scanning (c : TempContext) : State :=
  { live with tau := { live.tau with scanNext := some 6, contexts := tset live.tau.contexts 6 c } }

/-- A reading of 100.25 degrees, with its check. -/
def hotReply : SensorReply := ⟨1#8, 0x91#8, crc8 [1#8, 0x91#8]⟩

/-- `ScansReadEverySlot`: a first and a third hot reading, one after a capture whose report is on its way (R111), a first and a third failure, an absent slot, and the scan's ends. -/
theorem test_witness_scan :
    (run (.sensorReading (some hotReply)) (scanning ⟨none, 0, 0, false⟩)).temp 6 = ⟨some 401, 0, 1, false⟩ ∧
    ((run (.sensorReading (some hotReply)) (scanning ⟨some 404, 0, 2, false⟩)).mailOf 6).overtemps = 1 ∧
    (let t := run (.sensorReading (some hotReply)) ((scanning ⟨some 404, 0, 2, false⟩).setMail 6 { Mail.empty with captures := 1 });
      t.temp 6 = ⟨some 403, 0, 1, false⟩ ∧ t.mailOf 6 = Mail.empty) ∧
    (run (.sensorReading none) (scanning ⟨some 300, 0, 0, false⟩)).temp 6 = ⟨some 300, 1, 0, false⟩ ∧
    (run (.sensorReading (some ⟨0x7F#8, 0xFF#8, crc8 [0x7F#8, 0xFF#8]⟩)) (scanning ⟨some 300, 2, 0, false⟩)).temp 6 =
      ⟨none, 3, 0, true⟩ ∧
    (run (.sensorReading (some hotReply)) { live with tau := { live.tau with scanNext := some 0 } }).temp 0 =
      ⟨none, 0, 0, false⟩ ∧
    (run (.sensorReading none) { live with tau := { live.tau with scanNext := some 23 } }).tau.scanNext = none ∧
    (run .scanStart live).tau.scanNext = some 0 ∧ (run .scanStart State.reset).tau.scanNext = none := by decide +kernel

/-- Slot 6 in a stage with a target of one reference-minute, its credit as given and one credit event on its way. -/
def earning (credit : Nat) (tf : Option Int) : State :=
  { live with
    slots := tset live.slots 6 { live.slot 6 with
      credit := credit, context := some ⟨.soak, true, true, some 1920, .always, 1, none, none⟩ }
    tau := { live.tau with contexts := tset live.tau.contexts 6 ⟨tf, 0, 2, false⟩ }
    mail := tset live.mail 6 { Mail.empty with credits := 1, captures := 1 } }

/-- `CreditEventsAddTheFactor`: the target reached and missed by one, a COLD slot and one without a temperature. -/
theorem test_witness_credit :
    (let t := run (.creditEvent 6) (earning 1909 (some 160));
      (t.slot 6).phase = .due ∧ (t.slot 6).credit = 1920 ∧ (t.slot 6).total = 11) ∧
    ((run (.creditEvent 6) (earning 1908 (some 160))).slot 6).phase = .active ∧
    ((run (.creditEvent 6) (earning 1909 (some 159))).slot 6).credit = 1909 ∧
    ((run (.creditEvent 6) (earning 1909 none)).slot 6).credit = 1909 ∧
    (tget live.tau.profiles 1).width = 10 ∧ ((run (.captureReport 6) (earning 0 none)).temp 6).hot = 0 := by decide +kernel

/-- `ThermalSettingsAreSet`: 16 factors, a profile that no slot uses. -/
theorem test_witness_profile : (List.replicate 16 255).length = 16 ∧
    (tget (run (.setProfile 0 (-160) 4 (List.replicate 16 255)) (take (.setProfile 0 (-160) 4 (List.replicate 16 255)) live)
      ).tau.profiles 0).base = -160 := by decide +kernel

/-- `StagingBuildsARecipe`: the staged buffer describes the recipe; a gap between stages, or limits out of order, does not. -/
theorem test_witness_staging :
    staged.rst.staging.recipe? = some { recipe with header := { recipe.header with revision := 2 } } ∧
    Staging.recipe? { staged.rst.staging with steps := tset staged.rst.staging.steps 0 none } = none ∧
    Staging.recipe? { staged.rst.staging with limits := tset staged.rst.staging.limits 0 (some ⟨2, 1, 3, true⟩) } = none := by
  decide +kernel

/-- `StoreOperationsBegin`: PROGRAM over a suspended ERASE is nested; ERASE makes its block INVALID at once. -/
theorem test_witness_store_begins :
    (run (.program 0) (take (.program 0) halted)).rst.running.map (·.nested) = some true ∧
    ((run (.erase 0) (take (.erase 0) live)).block 0).state = .invalid ∧
    (run .storeClear (take .storeClear State.reset)).rst.running.map (·.work) = some (.clear none 0 false) := by decide +kernel

/-- `StoreOperationsEnd`: each operation's completion and failure; a CLEAR's blocks, and its end after block 31. -/
theorem test_witness_store_ends :
    ((run (.programCompletion true) (busy (.program 0 recipe) false false)).block 0).record = some recipe ∧
    (run (.programCompletion false) (busy (.program 0 recipe) false false)).rst.error = some (.programFailed, 0) ∧
    (run (.eraseCompletion true) (busy (.erase 3) false false)).lineLink.notices = [(.storeDone, 3)] ∧
    (run (.eraseCompletion false) (busy (.erase 3) false false)).lineLink.notices = [(.storeFailed, 3)] ∧
    ((run (.blankCheckCompletion true) (busy (.blankCheck 3 .invalid) false false)).block 3).state = .blank ∧
    ((run (.blankCheckCompletion false) (busy (.blankCheck 3 .invalid) false false)).block 3).state = .invalid ∧
    ((run .lockCompletion (busy (.lock 1) false false)).block 1).locked = true ∧
    (run .clearBlockErasure (busy (.clear none 5 false) false false)).rst.running.map (·.work) = some (.clear (some 5) 5 false) ∧
    (run (.clearBlockCompletion false) (busy (.clear (some 5) 5 false) false false)).rst.running.map (·.work) =
      some (.clear none 6 true) ∧
    (run (.clearBlockCompletion true) (busy (.clear (some 31) 31 true) false false)).lineLink.notices = [(.storeFailed, 255)] := by
  decide +kernel

/-- `StoreOperationsSuspendAndStop`: a suspension event that an explicit suspension asked for, one that only a fetch asked for,
and one that nothing asked for; STOP of a suspended ERASE. -/
theorem test_witness_store_stops :
    (run .suspensionEvent (busy (.erase 3) true false)).rst.suspended = some (.erase 3) ∧
    (let t := run .suspensionEvent { busy (.erase 3) false true with fetch := .waiting (.stage 6 1 1) };
      t.rst.running = some ⟨.erase 3, false, false, false⟩ ∧
      t.fetch = .answered (.stage 6 1 1) (.stage ⟨.check, true, true, none, .activeOnly, 1, some 5, some 400⟩)) ∧
    (run .suspensionEvent (busy (.erase 3) false false)).rst.running = some ⟨.erase 3, false, false, false⟩ ∧
    staged.rst.running = none ∧
    (run .stop (take .stop halted)).lineLink.notices = [(.storeDone, 3)] := by decide +kernel

/-- `FetchesAreServed`: with nothing running, behind a running ERASE, behind a LOCK, and for an id that no block holds. -/
theorem test_witness_fetches :
    (run .startFetch { live with fetch := .sent (.start 12 7) }).fetch =
      .answered (.start 12 7) (.start 1 1 2 ⟨.soak, false, false, some 1, .always, 0, none, none⟩) ∧
    ((run .startFetch { live with fetch := .sent (.start 12 7) }).block 1).refs = 2 ∧
    (run .startFetch { live with fetch := .sent (.start 12 8) }).fetch = .answered (.start 12 8) .range ∧
    (run .stageFetch { busy (.erase 3) false false with fetch := .sent (.stage 6 1 1) }).fetch = .waiting (.stage 6 1 1) ∧
    (run .limitsFetch { busy (.lock 1) false false with fetch := .sent (.limits 6 1) }).fetch =
      .answered (.limits 6 1) .busy ∧
    (run .limitsFetch { live with fetch := .sent (.limits 6 1) }).fetch =
      .answered (.limits 6 1) (.limits recipe.limits 0 0) := by decide +kernel

/-- `ReadSlotShowsTheRecord`: slot 6's record, with its serial, context, block, stage and marks. -/
theorem test_witness_read_slot :
    (let p := payload (.readSlot .line 6) live;
      p.length = 128 ∧ p.take 8 = [6#8, 5#8, 1#8, 1#8, 0x17#8, 0#8, 0#8, 1#8] ∧ p[8]? = some 66#8 ∧
      (p.drop 28).take 5 = [1#8, 0#8, 7#8, 1#8, 1#8] ∧ (p.drop 59).take 2 = [1#8, 0x90#8]) := by decide +kernel

/-- `ClockAndStoreReads`: the clock, a recipe's header and limits, and the store of the live state. -/
theorem test_witness_reads :
    payload (.readClock .line) live = [0#8, 0#8, 0#8, 100#8, 0#8, 5#8, 0#8] ∧
    payload (.readRecipe 1 0) live = [1#8, 1#8, 0#8, 7#8, 1#8, 1#8, 65#8, 0#8, 0#8] ∧
    payload (.readRecipe 1 2) live = [1#8, 1#8, 0#8, 0#8, 0#8, 0#8, 10#8, 0#8, 0#8, 0#8, 20#8, 0#8, 0#8, 0#8, 30#8, 1#8] ∧
    (payload .readStore live).length = 114 ∧
    ((payload .readStore (busy (.erase 3) true false)).drop 99).take 5 = [1#8, 1#8, 3#8, 0#8, 1#8] := by decide +kernel

/-- `PatchRequestsAndOverlays`: an ACTIVE channel replaces the stored threshold and nothing else. -/
theorem test_witness_overlay :
    (let q := (run .patchApply (take .patchApply (edit ⟨true, 1, .limit 0 .a, 15⟩ idleChannel))).pcu;
      q.unit = .active ∧ q.generation = 1 ∧ tget (q.overlayLimits 1 recipe.limits) 0 = some ⟨15, 20, 30, true⟩ ∧
      tget (q.overlayLimits 2 recipe.limits) 0 = some ⟨10, 20, 30, true⟩ ∧
      tget (q.overlayLimits 1 recipe.limits) 1 = none) := by decide +kernel

/-- `DispatchReservesOrWaits`: a second drive of bin A takes the free position; one of bin B waits; a lost reservation of bin A
is served to the head of its queue. -/
theorem test_witness_dispatch :
    (live.setTote 0 (.opened ⟨70, .a, [.reserved 9, .empty]⟩)).tote 0 = live.tote 0 ∧
    (let t := (live.putSlot 5 (graded .spinDown .a)).dispatch 5;
      t.tote 0 = .opened ⟨70, .a, [.reserved 9, .reserved 5]⟩ ∧ (t.slot 5).state = .unload) ∧
    (let t := (live.putSlot 5 (graded .spinDown .b)).dispatch 5;
      t.waitQueue .b = [10, 5] ∧ (t.slot 5).state = .dispatchWait) ∧
    (let s := { live with
        slots := tset live.slots 5 (graded .dispatchWait .a)
        ttb := { live.ttb with
          queues := tset live.ttb.queues 0 [5], totes := tset live.ttb.totes 0 (.opened ⟨70, .a, [.reserved 9]⟩) } };
      (s.releaseReservation 9).tote 0 = .opened ⟨70, .a, [.reserved 5]⟩ ∧
      (s.fillReservation 9).lineLink.notices = [(.toteFull, 0)]) := by decide +kernel

/-- `ToteRequests`: CLOSE and RELEASE of a tote without reservations, and READ TOTE of each kind of position. -/
theorem test_witness_totes :
    (let s := live.setTote 2 (.opened ⟨7, .scrap, [.empty]⟩);
      (run (.closeTote 2) (take (.closeTote 2) s)).tote 2 = .closed ⟨7, .scrap, [.empty]⟩ ∧
      payload (.closeTote 2) s = [0#8]) ∧
    (let s := live.setTote 2 (.closed ⟨7, .scrap, [.empty]⟩);
      (run (.releaseTote 2) (take (.releaseTote 2) s)).tote 2 = .free) ∧
    payload (.readTote .line 0 0) live =
      [0#8, 1#8, 0#8, 0#8, 0#8, 70#8, 0#8, 2#8, 0#8, 1#8, 9#8, 255#8] ∧
    (payload (.readTote .line 0 1) live).take 4 = [0#8, 1#8, 1#8, 9#8] ∧
    (payload (.readTote .line 0 2) live).length = 49 ∧
    (let e : FilledEntry := ⟨some [67#8], 9, 7, 1, 0, .a, .none, 0, some ⟨3, 0⟩, ⟨100, 5⟩⟩;
      let p := payload (.readTote .line 0 1) (live.setTote 0 (.opened ⟨70, .a, [.filled e, .empty]⟩));
      p.length = 49 ∧ p.take 6 = [0#8, 1#8, 2#8, 9#8, 1#8, 67#8] ∧ (p.drop 25).take 3 = [0#8, 7#8, 1#8]) := by decide +kernel

end Sys2Proof.Tests
end

section
/-! What leaves held requests and the work that answers them alone. Most operations touch a link only by posting notices to it,
and touch neither the fetch in flight nor the power-off orders that a POWER OFF waits on: `KeepsHeld`. -/

namespace Sys2Proof.Machine

/-- A posted notice as it reaches one link (R8): taken where Table 1-6 marks the link for its kind. -/
def LinkState.notice (l : Link) (ls : LinkState) (p : NoticeKind × Nat) : LinkState :=
  if p.1.recordedOn l then ls.post p.1 p.2 else ls

theorem State.link_post_notice (s : State) (k : NoticeKind) (n : Nat) (l : Link) :
    (s.post k n).link l = (s.link l).notice l (k, n) := s.link_post k n l

/-- The power-off orders of a slot, on their way, that a POWER OFF waits on. -/
def State.offCount (s : State) (i : Slot) : Nat := (s.mailOf i).orders.count (.powerOff true)

theorem State.offAsked_iff (s : State) (i : Slot) : s.offAsked i ↔ 0 < s.offCount i :=
  List.count_pos_iff.symm

/-- The links of `t` are those of `s` after some notices; the fetch in flight and the awaited power-off orders are those of
`s`. -/
structure KeepsHeld (s t : State) : Prop where
  links : ∀ l, ∃ ps : List (NoticeKind × Nat), t.link l = ps.foldl (LinkState.notice l) (s.link l)
  fetch : t.fetch.fetch? = s.fetch.fetch?
  offs : ∀ i, t.offCount i = s.offCount i

namespace KeepsHeld

@[simp] protected theorem refl (s : State) : KeepsHeld s s := ⟨fun _ => ⟨[], rfl⟩, rfl, fun _ => rfl⟩

protected theorem trans {s t u : State} (h : KeepsHeld s t) (k : KeepsHeld t u) : KeepsHeld s u where
  links l := by
    obtain ⟨ps, hps⟩ := h.links l
    obtain ⟨qs, hqs⟩ := k.links l
    exact ⟨ps ++ qs, by rw [hqs, hps, List.foldl_append]⟩
  fetch := k.fetch.trans h.fetch
  offs i := (k.offs i).trans (h.offs i)

variable {s t u : State}

/-- An operation that leaves the links, the fetch and every order to PSQ. -/
theorem of_orders (h : KeepsHeld s t) (ht : u.testLink = t.testLink) (hh : u.handlerLink = t.handlerLink)
    (hl : u.lineLink = t.lineLink) (hf : u.fetch = t.fetch) (ho : ∀ i, (u.mailOf i).orders = (t.mailOf i).orders) :
    KeepsHeld s u :=
  h.trans ⟨fun l => ⟨[], by cases l <;> assumption⟩, by rw [hf], fun i => by rw [State.offCount, ho, State.offCount]⟩

/-- An operation that leaves the links, the fetch and every event on its way. -/
theorem of_mail (h : KeepsHeld s t) (ht : u.testLink = t.testLink) (hh : u.handlerLink = t.handlerLink)
    (hl : u.lineLink = t.lineLink) (hf : u.fetch = t.fetch) (hm : u.mail = t.mail) : KeepsHeld s u :=
  h.of_orders ht hh hl hf fun i => by rw [State.mailOf, hm, State.mailOf]

/-! ### The shared operations -/

@[simp] protected theorem post (h : KeepsHeld s t) (k : NoticeKind) (n : Nat) : KeepsHeld s (t.post k n) :=
  h.trans ⟨fun l => ⟨[(k, n)], t.link_post_notice k n l⟩, rfl, fun _ => rfl⟩

/-- One slot's events on their way replaced, by events with as many awaited power-off orders. -/
theorem setMail (h : KeepsHeld s t) (i : Slot) (m : Mail)
    (hm : m.orders.count (.powerOff true) = t.offCount i) : KeepsHeld s (t.setMail i m) := by
  refine h.trans ⟨fun l => ⟨[], by cases l <;> rfl⟩, rfl, fun j => ?_⟩
  unfold State.offCount
  rw [State.mailOf_setMail]
  split
  · next e => subst e; exact hm
  · rfl

/-- One slot's events on their way replaced, the orders to PSQ as they were. -/
@[simp] theorem setMail_orders (h : KeepsHeld s t) (i : Slot) (m : Mail) (hm : m.orders = (t.mailOf i).orders) :
    KeepsHeld s (t.setMail i m) := h.setMail i m (by rw [hm, State.offCount])

@[simp] protected theorem putSlot (h : KeepsHeld s t) (i : Slot) (r : SlotRecord) : KeepsHeld s (t.putSlot i r) :=
  h.of_orders rfl rfl rfl rfl fun j => by rw [State.mailOf_putSlot]; split <;> rfl

@[simp] theorem giveOrder (h : KeepsHeld s t) (i : Slot) (o : PowerOrder) (ho : o ≠ .powerOff true) :
    KeepsHeld s (t.giveOrder i o) :=
  h.setMail i _ (by rw [List.count_append, List.count_singleton, if_neg (by simpa using ho)]; rfl)

@[simp] theorem giveReport (h : KeepsHeld s t) (i : Slot) (r : PowerReport) : KeepsHeld s (t.giveReport i r) :=
  h.setMail_orders i _ rfl

@[simp] theorem dropReport (h : KeepsHeld s t) (i : Slot) : KeepsHeld s (t.dropReport i) := h.setMail_orders i _ rfl

/-- The slot's oldest order taken, where no POWER OFF waits on it. -/
theorem dropOrder (h : KeepsHeld s t) (i : Slot) (ho : (t.mailOf i).orders.head? ≠ some (.powerOff true)) :
    KeepsHeld s (t.dropOrder i) := by
  refine h.setMail i _ ?_
  unfold State.offCount
  cases e : (t.mailOf i).orders with
  | nil => rfl
  | cons o os => rw [List.tail_cons, List.count_cons_of_ne (by simpa [e] using ho)]

@[simp] theorem withExpiry_orders (m : Mail) (d : Option Deadline) : (m.withExpiry d).orders = m.orders := by
  cases d <;> rfl

@[simp] theorem arm (h : KeepsHeld s t) (i : Slot) (d : Option Deadline) : KeepsHeld s (t.arm i d) :=
  (h.setMail_orders i ((t.mailOf i).withExpiry (firedAt t.now d)) (by simp)).of_mail rfl rfl rfl rfl rfl

@[simp] theorem compareDeadlines (h : KeepsHeld s t) : KeepsHeld s t.compareDeadlines :=
  h.of_orders (by simp) (by simp) (by simp) (by simp) fun i => by simp [State.mailOf, State.compareDeadlines]

@[simp] theorem clearOverride (h : KeepsHeld s t) : KeepsHeld s t.clearOverride := h.of_mail rfl rfl rfl rfl rfl

@[simp] theorem setBlock (h : KeepsHeld s t) (b : BlockNo) (k : RecipeBlock) : KeepsHeld s (t.setBlock b k) :=
  h.of_mail rfl rfl rfl rfl rfl

@[simp] theorem releaseRef (h : KeepsHeld s t) (b : BlockNo) : KeepsHeld s (t.releaseRef b) := h.setBlock b _

@[simp] theorem releaseRefOf (h : KeepsHeld s t) (r : SlotRecord) : KeepsHeld s (t.releaseRefOf r) := by
  unfold State.releaseRefOf; split <;> simp [h]

@[simp] theorem setNote (h : KeepsHeld s t) (i : Slot) (n : Option (Nat × Nat)) : KeepsHeld s (t.setNote i n) :=
  h.of_mail rfl rfl rfl rfl rfl

/-! ### RCK and SIF -/

@[simp] theorem oscillate (h : KeepsHeld s t) : KeepsHeld s t.oscillate := by
  unfold State.oscillate; split <;> exact h.of_mail rfl rfl rfl rfl rfl

@[simp] theorem serveExpiry (h : KeepsHeld s t) (i : Slot) (d : Deadline) : KeepsHeld s (t.serveExpiry i d) := by
  unfold State.serveExpiry; dsimp only; split <;> simp [h]

@[simp] theorem sampleInputs (h : KeepsHeld s t) (p q : BitVec 24) : KeepsHeld s (t.sampleInputs p q) :=
  h.of_orders (by simp) (by simp) (by simp) (by simp) fun i => by
    simp [State.mailOf, State.sampleInputs, Mail.withChanges]

/-! ### TTB -/

@[simp] theorem setTote (h : KeepsHeld s t) (n : ToteNo) (r : Tote) : KeepsHeld s (t.setTote n r) :=
  h.of_mail rfl rfl rfl rfl rfl

@[simp] theorem setQueue (h : KeepsHeld s t) (g : Bin) (q : List Slot) : KeepsHeld s (t.setQueue g q) :=
  h.of_mail rfl rfl rfl rfl rfl

/-- A reservation changes a tote, a slot record and the notices alone. -/
theorem reserve? (h : KeepsHeld s t) (g : Bin) (i : Slot) (hu : t.reserve? g i = some u) : KeepsHeld s u := by
  simp only [State.reserve?, Option.bind_eq_some_iff, Option.map_eq_some_iff] at hu
  obtain ⟨x, -, p, -, rfl⟩ := hu
  exact ((h.setTote _ _).putSlot i _).post _ _

/-- What follows a reservation that may fail. -/
@[simp] theorem reserve?_getD (h : KeepsHeld s t) (g : Bin) (i : Slot) (d : State) (hd : KeepsHeld s d) :
    KeepsHeld s ((t.reserve? g i).getD d) := by
  cases e : t.reserve? g i with
  | none => exact hd
  | some u => exact h.reserve? g i e

@[simp] theorem stall (h : KeepsHeld s t) (g : Bin) (i : Slot) : KeepsHeld s (t.stall g i) :=
  ((h.setQueue g _).putSlot i _).post _ _

@[simp] theorem dispatch (h : KeepsHeld s t) (i : Slot) : KeepsHeld s (t.dispatch i) := by
  unfold State.dispatch; split
  · exact h.reserve?_getD _ i _ (h.stall _ i)
  · exact h

theorem serveQueue (g : Bin) (js : List Slot) : ∀ t : State, KeepsHeld t (State.serveQueue g js t).1 := by
  induction js with
  | nil => exact KeepsHeld.refl
  | cons i rest ih =>
    intro t
    unfold State.serveQueue
    split
    · next u hu => exact (((KeepsHeld.refl t).setQueue g rest).reserve? g i hu).trans (ih u)
    · exact KeepsHeld.refl t

@[simp] theorem releaseReservation (h : KeepsHeld s t) (i : Slot) : KeepsHeld s (t.releaseReservation i) := by
  unfold State.releaseReservation
  split
  · dsimp only; split
    · exact h.setTote _ _
    · exact ((h.setTote _ _).setQueue _ _).reserve?_getD _ _ _ (h.setTote _ _)
  · exact h

@[simp] theorem leaveQueue (h : KeepsHeld s t) (i : Slot) : KeepsHeld s (t.leaveQueue i) := by
  unfold State.leaveQueue; split <;> simp [h]

@[simp] theorem fillReservation (h : KeepsHeld s t) (i : Slot) : KeepsHeld s (t.fillReservation i) := by
  unfold State.fillReservation
  split
  · dsimp only; split <;> simp [h]
  · exact h

/-! ### QAC -/

@[simp] theorem setAccess (h : KeepsHeld s t) (r : Fin 2) (a : AccessRecord) : KeepsHeld s (t.setAccess r a) :=
  h.of_mail rfl rfl rfl rfl rfl

@[simp] theorem raiseHolds (h : KeepsHeld s t) (z : List Slot) : KeepsHeld s (t.raiseHolds z) :=
  h.of_mail (by simp) (by simp) (by simp) (by simp) (by simp)

@[simp] theorem lowerHolds (h : KeepsHeld s t) (z : List Slot) : KeepsHeld s (t.lowerHolds z) :=
  h.of_orders (by simp) (by simp) (by simp) (by simp) fun i => by
    simp only [State.mailOf, State.lowerHolds, tget_tof]; split <;> rfl

@[simp] theorem askZone (h : KeepsHeld s t) (z : List Slot) : KeepsHeld s (t.askZone z) :=
  h.of_orders (by simp) (by simp) (by simp) (by simp) fun i => by
    simp only [State.mailOf, State.askZone, tget_tof]; split <;> rfl

@[simp] theorem disturbZone (h : KeepsHeld s t) (z : List Slot) : KeepsHeld s (t.disturbZone z) :=
  h.of_orders (by simp) (by simp) (by simp) (by simp) fun i => by
    simp only [State.mailOf, State.disturbZone, tget_tof]; split <;> rfl

@[simp] theorem freeAccess (h : KeepsHeld s t) (r : Fin 2) : KeepsHeld s (t.freeAccess r) := by
  unfold State.freeAccess; split
  · exact (h.lowerHolds _).setAccess r _
  · exact h

@[simp] theorem endPending (h : KeepsHeld s t) (r : Fin 2) (x : AccessUse) : KeepsHeld s (t.endPending r x) :=
  (h.freeAccess r).post _ _

@[simp] theorem grant (h : KeepsHeld s t) (r : Fin 2) (x : AccessUse) : KeepsHeld s (t.grant r x) :=
  (h.setAccess r _).post _ _

@[simp] theorem evaluate (h : KeepsHeld s t) (r : Fin 2) : KeepsHeld s (t.evaluate r) := by
  unfold State.evaluate; repeat' split
  all_goals simp [h]

@[simp] theorem checkTarget (h : KeepsHeld s t) (r : Fin 2) (i : Slot) : KeepsHeld s (t.checkTarget r i) := by
  unfold State.checkTarget; repeat' split
  all_goals simp [h]

@[simp] theorem reportAt (h : KeepsHeld s t) (r : Fin 2) (i : Slot) : KeepsHeld s (t.reportAt r i) := by
  unfold State.reportAt; dsimp only; repeat' split
  all_goals simp [h]

@[simp] theorem takeAccess (h : KeepsHeld s t) (r : Fin 2) (i : Slot) (a : Action) : KeepsHeld s (t.takeAccess r i a) :=
  (((h.setAccess r _).raiseHolds _).askZone _).evaluate r

@[simp] theorem applyAsk (h : KeepsHeld s t) (i : Slot) : KeepsHeld s (t.applyAsk i) := by
  unfold State.applyAsk; split <;> simp [h]

@[simp] theorem applyRelease (h : KeepsHeld s t) (i : Slot) : KeepsHeld s (t.applyRelease i) := by
  unfold State.applyRelease; split <;> simp [h]

@[simp] theorem applyDisturbance (h : KeepsHeld s t) (i : Slot) : KeepsHeld s (t.applyDisturbance i) := by
  unfold State.applyDisturbance; split <;> simp [h]

@[simp] theorem classChange (h : KeepsHeld s t) (i : Slot) (c : InputChange) : KeepsHeld s (t.classChange i c) := by
  unfold State.classChange; split <;> simp [h]

/-! ### SSQ -/

@[simp] theorem clearSlot (h : KeepsHeld s t) (i : Slot) : KeepsHeld s (t.clearSlot i) :=
  (((h.releaseRefOf _).arm i none).setNote i none).putSlot i _

@[simp] theorem loadPlaced (h : KeepsHeld s t) (i : Slot) : KeepsHeld s (t.loadPlaced i) := by
  unfold State.loadPlaced; split <;> simp [h]

@[simp] theorem unloadPlaced (h : KeepsHeld s t) (i : Slot) : KeepsHeld s (t.unloadPlaced i) := by
  unfold State.unloadPlaced; split <;> simp [h]

@[simp] theorem endAccess (h : KeepsHeld s t) (r : Fin 2) (x : AccessUse) (p o q : Bool) :
    KeepsHeld s (t.endAccess r x p o q).1 := by
  unfold State.endAccess; dsimp only; repeat' split
  all_goals simp [h]

@[simp] theorem reportCapture (h : KeepsHeld s t) (i : Slot) : KeepsHeld s (t.reportCapture i) := h.setMail_orders i _ rfl

@[simp] theorem capture (h : KeepsHeld s t) (i : Slot) (r : SlotRecord) (n : Nat) (e : StageEntry) :
    KeepsHeld s (t.capture i r n e) := ((h.arm i _).putSlot i _).reportCapture i

@[simp] theorem gradeSlot (h : KeepsHeld s t) (i : Slot) (r : SlotRecord) (l : Option Limits) (n : Nat) :
    KeepsHeld s (t.gradeSlot i r l n) := (((h.releaseRefOf r).arm i none).setNote i _).putSlot i _

@[simp] theorem gradeToSpinDown (h : KeepsHeld s t) (i : Slot) (r : SlotRecord) (l : Option Limits) (n : Nat) :
    KeepsHeld s (t.gradeToSpinDown i r l n) := (h.gradeSlot i _ l n).giveOrder i .spinDown (by decide)

@[simp] theorem arrive (h : KeepsHeld s t) (i : Slot) (q : Bool) : KeepsHeld s (t.arrive i q) :=
  (h.putSlot i _).post _ _

@[simp] theorem servePresent (h : KeepsHeld s t) (i : Slot) (q : Bool) : KeepsHeld s (t.servePresent i q) := by
  unfold State.servePresent; dsimp only; repeat' split
  all_goals simp [h]

@[simp] theorem loseDrive (h : KeepsHeld s t) (i : Slot) : KeepsHeld s (t.loseDrive i) := by
  have o := h.giveOrder i .release (by decide)
  unfold State.loseDrive; dsimp only; split
  · exact ((o.leaveQueue i).clearSlot i).post _ _
  · exact ((o.releaseReservation i).clearSlot i).post _ _
  · exact (o.clearSlot i).post _ _

@[simp] theorem serveAbsent (h : KeepsHeld s t) (i : Slot) : KeepsHeld s (t.serveAbsent i) := by
  unfold State.serveAbsent; dsimp only; repeat' split
  all_goals simp [h]

@[simp] theorem serveLatchOpen (h : KeepsHeld s t) (i : Slot) : KeepsHeld s (t.serveLatchOpen i) := by
  unfold State.serveLatchOpen; dsimp only; split <;> simp [h]

@[simp] theorem serveLatchClosed (h : KeepsHeld s t) (i : Slot) : KeepsHeld s (t.serveLatchClosed i) := h.putSlot i _

@[simp] theorem serveSpunDown (h : KeepsHeld s t) (i : Slot) : KeepsHeld s (t.serveSpunDown i) := by
  unfold State.serveSpunDown; repeat' split
  all_goals simp [h]

@[simp] theorem serveOvertemp (h : KeepsHeld s t) (i : Slot) : KeepsHeld s (t.serveOvertemp i) := by
  unfold State.serveOvertemp; split <;> simp [h]

/-! ### PSQ -/

theorem giveReports (js : List Slot) (o : PowerReport) :
    ∀ t : State, KeepsHeld s t → KeepsHeld s (js.foldl (fun t i => t.giveReport i o) t) := by
  induction js with
  | nil => exact fun _ h => h
  | cons i rest ih => exact fun t h => ih _ (h.giveReport i o)

/-- PSQ's own state replaced. -/
theorem setPsq (h : KeepsHeld s t) (q : Psq) : KeepsHeld s { t with psq := q } := h.of_mail rfl rfl rfl rfl rfl

@[simp] theorem lookAtQueue (h : KeepsHeld s t) : KeepsHeld s t.lookAtQueue :=
  giveReports _ .started _ (h.setPsq _)

@[simp] theorem takeOutcome (h : KeepsHeld s t) (i : Slot) (o : PowerOutcome) : KeepsHeld s (t.takeOutcome i o) := by
  unfold State.takeOutcome; dsimp only; repeat' split
  all_goals simp [h]

@[simp] theorem runSpinDown (h : KeepsHeld s t) (i : Slot) : KeepsHeld s (t.runSpinDown i) := (h.setPsq _).lookAtQueue

@[simp] theorem runRelease (h : KeepsHeld s t) (i : Slot) : KeepsHeld s (t.runRelease i) := (h.setPsq _).lookAtQueue

/-- PSQ serves a power-off order and SSQ takes its outcome, before the answer to a POWER OFF that waits. -/
theorem takeOutcome_look (h : KeepsHeld s t) (i : Slot) (q : Psq) (o : PowerOutcome) :
    KeepsHeld s (({ t with psq := q }.lookAtQueue).takeOutcome i o) := (h.setPsq q).lookAtQueue.takeOutcome i o

/-- An order that no POWER OFF waits on. -/
theorem runOrder (h : KeepsHeld s t) (i : Slot) (o : PowerOrder) (ho : o ≠ .powerOff true) :
    KeepsHeld s (t.runOrder i o) := by
  cases o with
  | powerOff q =>
    cases q with
    | true => exact absurd rfl ho
    | false => exact h.takeOutcome_look i _ _
  | spinDown => exact h.runSpinDown i
  | release => exact h.runRelease i

/-- Orders served one after another, none of which a POWER OFF waits on (R37, 3.4). -/
theorem runOrders (i : Slot) (os : List PowerOrder) (ho : .powerOff true ∉ os) :
    ∀ t : State, KeepsHeld s t → ¬ t.offAsked i → KeepsHeld s (State.runOrders i os t) := by
  induction os with
  | nil => exact fun _ h _ => h
  | cons o os ih =>
    intro t h ht
    obtain ⟨ho', hos⟩ := List.ne_and_not_mem_of_not_mem_cons ho
    have drop : KeepsHeld t (t.dropOrder i) :=
      (KeepsHeld.refl t).dropOrder i fun e => ht (List.mem_of_head? e)
    have run : KeepsHeld t ((t.dropOrder i).runOrder i o) := drop.runOrder i o ho'.symm
    exact ih hos _ (h.trans run) (by rwa [State.offAsked_iff, run.offs, ← State.offAsked_iff])

/-! ### TAU -/

@[simp] theorem setTemp (h : KeepsHeld s t) (i : Slot) (c : TempContext) : KeepsHeld s (t.setTemp i c) :=
  h.of_mail rfl rfl rfl rfl rfl

@[simp] theorem takeCaptures (h : KeepsHeld s t) (i : Slot) : KeepsHeld s (t.takeCaptures i) := by
  unfold State.takeCaptures; split <;> simp [h]

@[simp] theorem readingFails (h : KeepsHeld s t) (i : Slot) : KeepsHeld s (t.readingFails i) := by
  unfold State.readingFails; dsimp only; split <;> simp [h]

@[simp] theorem readingAccepted (h : KeepsHeld s t) (i : Slot) (z : Int) : KeepsHeld s (t.readingAccepted i z) := by
  unfold State.readingAccepted; dsimp only; split
  · exact (h.setTemp i _).setMail_orders i _ rfl
  · exact h.setTemp i _

@[simp] theorem serveReading (h : KeepsHeld s t) (i : Slot) (r : Option SensorReply) :
    KeepsHeld s (t.serveReading i r) := by
  unfold State.serveReading; repeat' split
  all_goals simp [h]

@[simp] theorem addCredit (h : KeepsHeld s t) (i : Slot) (n : Nat) : KeepsHeld s (t.addCredit i n) := by
  unfold State.addCredit; dsimp only; repeat' split
  all_goals simp [h]

@[simp] theorem serveCredit (h : KeepsHeld s t) (i : Slot) : KeepsHeld s (t.serveCredit i) := by
  unfold State.serveCredit; split <;> simp [h]

/-! ### RST -/

@[simp] theorem setRunning (h : KeepsHeld s t) (o : Option Running) : KeepsHeld s (t.setRunning o) :=
  h.of_mail rfl rfl rfl rfl rfl

@[simp] theorem recordError (h : KeepsHeld s t) (k : StoreErrorKind) (b : BlockNo) : KeepsHeld s (t.recordError k b) :=
  h.of_mail rfl rfl rfl rfl rfl

@[simp] theorem invalidate (h : KeepsHeld s t) (b : BlockNo) : KeepsHeld s (t.invalidate b) := by
  unfold State.invalidate; dsimp only; split
  · exact (h.setBlock b ⟨.invalid, false, none, (t.block b).refs⟩).of_mail rfl rfl rfl rfl rfl
  · exact h.setBlock b _

@[simp] theorem countRef (h : KeepsHeld s t) (r : FetchResult) : KeepsHeld s (t.countRef r) := by
  unfold State.countRef; split <;> simp [h]

/-- The fetch moved on: it is still the one in flight. -/
theorem setFetch (h : KeepsHeld s t) (p : FetchPlace) (hp : p.fetch? = t.fetch.fetch?) :
    KeepsHeld s { t with fetch := p } :=
  h.trans ⟨fun l => ⟨[], by cases l <;> rfl⟩, hp, fun _ => rfl⟩

/-- RST serves the fetch in flight. -/
theorem answerFetch (h : KeepsHeld s t) (f : Fetch) (hf : t.fetch.fetch? = some f) : KeepsHeld s (t.answerFetch f) :=
  (h.countRef (t.fetchResult f)).setFetch _ (by rw [((KeepsHeld.refl t).countRef _).fetch, hf]; rfl)

@[simp] theorem answerWaiting (h : KeepsHeld s t) : KeepsHeld s t.answerWaiting := by
  unfold State.answerWaiting; split
  · next f hf => exact h.answerFetch f (by rw [hf]; rfl)
  · exact h

/-- The fetch in flight reaches RST. -/
theorem fetchReaches (h : KeepsHeld s t) (f : Fetch) (hf : t.fetch.fetch? = some f) : KeepsHeld s (t.fetchReaches f) := by
  unfold State.fetchReaches; repeat' split
  · exact h.answerFetch f hf
  · exact (h.setRunning _).setFetch _ hf.symm
  · exact h.setFetch _ hf.symm

@[simp] theorem endRunning (h : KeepsHeld s t) (o : Running) : KeepsHeld s (t.endRunning o) := by
  unfold State.endRunning; dsimp only; split <;> simp [h]

@[simp] theorem programEnds (h : KeepsHeld s t) (o : Running) (b : BlockNo) (c : Recipe) (q : Bool) :
    KeepsHeld s (t.programEnds o b c q) := by
  unfold State.programEnds; cases q
  · exact ((h.recordError _ b).clearOverride.endRunning o).post _ _
  · exact ((h.setBlock b _).clearOverride.endRunning o).post _ _

@[simp] theorem eraseEnds (h : KeepsHeld s t) (o : Running) (b : BlockNo) (q : Bool) :
    KeepsHeld s (t.eraseEnds o b q) := by
  unfold State.eraseEnds; cases q
  · exact ((h.recordError _ b).clearOverride.endRunning o).post _ _
  · exact ((h.setBlock b _).clearOverride.endRunning o).post _ _

@[simp] theorem blankCheckEnds (h : KeepsHeld s t) (o : Running) (b : BlockNo) (p : BlockState) (q : Bool) :
    KeepsHeld s (t.blankCheckEnds o b p q) := by
  unfold State.blankCheckEnds; cases q
  · exact (((h.setBlock b _).recordError _ b).endRunning o).post _ _
  · exact ((h.setBlock b _).endRunning o).post _ _

@[simp] theorem lockEnds (h : KeepsHeld s t) (o : Running) (b : BlockNo) : KeepsHeld s (t.lockEnds o b) :=
  ((h.setBlock b _).clearOverride.endRunning o).post _ _

@[simp] theorem clearBlockEnds (h : KeepsHeld s t) (o : Running) (b : BlockNo) (p q : Bool) :
    KeepsHeld s (t.clearBlockEnds o b p q) := by
  have k : KeepsHeld s (if q then t.setBlock b { t.block b with state := .blank } else t.recordError .eraseFailed b) := by
    cases q
    · exact h.recordError _ b
    · exact h.setBlock b _
  unfold State.clearBlockEnds; dsimp only; split
  · exact (k.endRunning o).post _ _
  · exact k.setRunning _

@[simp] theorem stopRunning (h : KeepsHeld s t) : KeepsHeld s t.stopRunning := by
  unfold State.stopRunning; split <;> simp [h]

/-- RST's own state replaced. -/
theorem setRst (h : KeepsHeld s t) (q : Rst) : KeepsHeld s { t with rst := q } := h.of_mail rfl rfl rfl rfl rfl

@[simp] theorem stopSuspended (h : KeepsHeld s t) : KeepsHeld s t.stopSuspended := by
  unfold State.stopSuspended; split
  · exact h
  · exact (h.setRst _).post _ _

@[simp] theorem suspendOrGoOn (h : KeepsHeld s t) (o : Running) : KeepsHeld s (t.suspendOrGoOn o) := by
  unfold State.suspendOrGoOn; split
  · exact (h.setRst _).post _ _
  · exact h.setRunning _

end KeepsHeld

end Sys2Proof.Machine
end

section
/-! What an owning block may make of a request: it answers it, having kept held requests and their work as they are; or it keeps it
held for later, with a fetch or a power-off order on its way; and its refusals change nothing. -/

namespace Sys2Proof.Machine

/-- What an owning block may make of the request `c`, where a refusal leaves the state `r`. -/
structure Serves (c : Instr) (s r : State) (x : State × Reply) : Prop where
  kept : x.2 ≠ .later → KeepsHeld s x.1
  refused : ∀ k p, x.2 = .now k p → k.success = false → p = [] ∧ x.1 = r
  later : x.2 = .later → (∃ f : Fetch, c = f.request ∧ x.1 = { s with fetch := .sent f }) ∨
    ∃ i : Slot, c = .powerOff i.val ∧ x.1 = s.giveOrder i (.powerOff true)

/-- An operation that writes other blocks than the links, the fetch and the events on their way. -/
@[simp] theorem KeepsHeld.blocks (s : State) (a : Rck) (b : Sif) (c : Psq) (d : Vector SlotRecord 24) (e : Qac) (f : Tau)
    (g : Rst) (h : Pcu) (k : Ttb) (m : Nat) (n : Bool) (o : Nat) :
    KeepsHeld s { s with
      rck := a, sif := b, psq := c, slots := d, qac := e, tau := f, rst := g, pcu := h, ttb := k, ticks := m, resetDue := n,
      freeSeed := o } := (KeepsHeld.refl s).of_mail rfl rfl rfl rfl rfl

namespace Serves

variable {c : Instr} {s t r : State}

@[simp] theorem refuse (k : RespCode) : Serves c s s (s, .refuse k) :=
  ⟨fun _ => KeepsHeld.refl s, fun _ _ h _ => by cases h; exact ⟨rfl, rfl⟩, nofun⟩

/-- A success answer, whose block has kept held requests and their work. -/
theorem success (h : KeepsHeld s t) (k : RespCode) (p : List Byte) (hk : k.success = true) :
    Serves c s r (t, .now k p) :=
  ⟨fun _ => h, fun _ _ e hr => (by cases e; simp [hk] at hr), nofun⟩

@[simp] theorem done (h : KeepsHeld s t) (p : List Byte) : Serves c s r (t, .done p) := success h .done p rfl

@[simp] theorem accepted (h : KeepsHeld s t) (p : List Byte) : Serves c s r (t, .now .accepted p) :=
  success h .accepted p rfl

@[simp] theorem notYet : Serves c s r (s, .notYet) := ⟨fun _ => KeepsHeld.refl s, nofun, nofun⟩

/-- A request that a fetch answers. -/
theorem laterFetch (f : Fetch) : Serves f.request s r ({ s with fetch := .sent f }, .later) :=
  ⟨fun h => absurd rfl h, nofun, fun _ => .inl ⟨f, rfl, rfl⟩⟩

/-- A POWER OFF, which its order answers. -/
theorem laterOff (i : Slot) : Serves (.powerOff i.val) s r (s.giveOrder i (.powerOff true), .later) :=
  ⟨fun h => absurd rfl h, nofun, fun _ => .inr ⟨i, rfl, rfl⟩⟩

/-- A request of Section 7: its refusal clears the lock override flag (R116). -/
theorem storeRequest {serve : State → State × Reply} (h : Serves c s s (serve s)) :
    Serves c s s.clearOverride (Machine.storeRequest serve s) := by
  unfold Machine.storeRequest
  split
  · next k p e =>
    cases hk : k.success with
    | true => exact success (h.kept (by rw [e]; nofun)) k p hk
    | false =>
      obtain ⟨rfl, hs⟩ := h.refused k p e hk
      refine ⟨fun _ => (h.kept (by rw [e]; nofun)).clearOverride, fun _ _ e' _ => ?_, nofun⟩
      cases e'
      exact ⟨rfl, by rw [hs]; rfl⟩
  · exact ⟨h.kept, fun k p e _ => absurd e (by simp_all), h.later⟩

end Serves

/-! ### RCK, SIF and the links -/

theorem serveReadClock_serves (s : State) (c : Instr) : Serves c s s (serveReadClock s) := .done (KeepsHeld.refl s) _

theorem serveSetTime_serves (s : State) (c : Instr) (a b : Nat) : Serves c s s (serveSetTime a b s) := by
  unfold serveSetTime; repeat' split
  all_goals simp

theorem serveSetInputs_serves (s : State) (c : Instr) (a b d : Nat) : Serves c s s (serveSetInputs a b d s) := by
  unfold serveSetInputs; repeat' split
  all_goals simp

theorem serveRackReset_serves (s : State) (c : Instr) : Serves c s s (serveRackReset s) := .done (KeepsHeld.refl s) _

/-! ### PSQ -/

theorem serveSetPower_serves (s : State) (c : Instr) (a b d : Nat) : Serves c s s (serveSetPower a b d s) := by
  unfold serveSetPower; split
  · exact .done (KeepsHeld.blocks ..).lookAtQueue _
  · exact .refuse _

theorem servePowerOff_serves (s : State) (n : Nat) : Serves (.powerOff n) s s (servePowerOff n s) := by
  unfold servePowerOff; split
  · simp
  · next i hi =>
    dsimp only; split
    · rw [← slotOf?_some hi]; exact .laterOff i
    · simp

/-- POWER ON has PSQ serve the slot's orders first (log entry 13); it answers no POWER OFF where none waits. -/
theorem servePowerOn_serves (s : State) (c : Instr) (n : Nat) (hs : ∀ i, ¬ s.offAsked i) :
    Serves c s s (servePowerOn n s) := by
  unfold servePowerOn; repeat' split
  · simp
  · simp
  · simp
  · next i _ _ _ =>
    have run := KeepsHeld.runOrders i (s.mailOf i).orders (hs i) s (KeepsHeld.refl s) (hs i)
    exact .done ((run.putSlot i _).setPsq _).lookAtQueue _

/-! ### QAC -/

theorem serveAccessRequest_serves (s : State) (c : Instr) (a b : Nat) : Serves c s s (serveAccessRequest a b s) := by
  unfold serveAccessRequest; repeat' split
  all_goals simp

theorem serveAccessCancel_serves (s : State) (c : Instr) (n : Nat) : Serves c s s (serveAccessCancel n s) := by
  unfold serveAccessCancel; repeat' split
  all_goals simp

/-- The end of a GRANTED access. -/
theorem endAccess_serves (s : State) (c : Instr) (r : Fin 2) (u : AccessUse) (p o q : Bool) :
    Serves c s s (s.endAccess r u p o q) := by
  unfold State.endAccess; dsimp only; repeat' split
  any_goals exact .refuse _
  · exact .done (((KeepsHeld.refl s).loadPlaced _).freeAccess r) _
  · exact .done (((KeepsHeld.refl s).unloadPlaced _).freeAccess r) _
  · exact .done ((KeepsHeld.refl s).freeAccess r) _

theorem serveAccessDone_serves (s : State) (c : Instr) (a b : Nat) : Serves c s s (serveAccessDone a b s) := by
  unfold serveAccessDone; repeat' split
  all_goals simp [endAccess_serves]

theorem serveQuiet_serves (s : State) (c : Instr) (n : Nat) : Serves c s s (serveQuiet n s) := by
  unfold serveQuiet; repeat' split
  all_goals simp

theorem serveSetQuiet_serves (s : State) (c : Instr) (a b d : Nat) : Serves c s s (serveSetQuiet a b d s) := by
  unfold serveSetQuiet; repeat' split
  all_goals simp

/-! ### SSQ -/

theorem serveSetSerial_serves (s : State) (c : Instr) (n : Nat) (cs : List Byte) : Serves c s s (serveSetSerial n cs s) := by
  unfold serveSetSerial; repeat' split
  all_goals simp

theorem serveStart_serves (s : State) (n m : Nat) : Serves (.start n m) s s (serveStart n m s) := by
  unfold serveStart; repeat' split
  · simp
  · simp
  · next i id hi hid _ _ =>
    rw [← slotOf?_some hi, ← (natIn?_some hid).1]; exact .laterFetch (.start i id)
  · simp

theorem serveAdvance_serves (s : State) (n : Nat) : Serves (.advance n) s s (serveAdvance n s) := by
  unfold serveAdvance; dsimp only; repeat' split
  · simp
  · simp
  · simp
  · simp
  · exact .done (((KeepsHeld.refl s).arm _ none).putSlot _ _) _
  · next i hi _ _ _ ref _ _ =>
    rw [← slotOf?_some hi]; exact .laterFetch (.stage i ref.block _)

theorem serveMeasure_serves (s : State) (c : Instr) (a b d : Nat) : Serves c s s (serveMeasure a b d s) := by
  unfold serveMeasure; repeat' split
  all_goals simp

theorem serveFinish_serves (s : State) (n : Nat) : Serves (.finish n) s s (serveFinish n s) := by
  unfold serveFinish; repeat' split
  · simp
  · simp
  · simp
  · next i hi _ _ ref _ =>
    rw [← slotOf?_some hi]; exact .laterFetch (.limits i ref.block)

theorem serveAbort_serves (s : State) (c : Instr) (a b : Nat) : Serves c s s (serveAbort a b s) := by
  unfold serveAbort; repeat' split
  · exact .done (((KeepsHeld.refl s).gradeSlot _ _ none _).dispatch _) _
  · exact .done ((KeepsHeld.refl s).gradeToSpinDown _ _ none _) _
  · exact .refuse _
  · exact .refuse _

theorem serveReadSlot_serves (s : State) (c : Instr) (n : Nat) : Serves c s s (serveReadSlot n s) := by
  unfold serveReadSlot; repeat' split
  all_goals simp

/-! ### TAU -/

theorem serveSetScan_serves (s : State) (c : Instr) (a b : Nat) : Serves c s s (serveSetScan a b s) := by
  unfold serveSetScan; repeat' split
  all_goals simp

theorem serveSetProfile_serves (s : State) (c : Instr) (a : Nat) (b : Int) (d : Nat) (fs : List Nat) : Serves c s s (serveSetProfile a b d fs s) := by
  unfold serveSetProfile; repeat' split
  all_goals simp

theorem serveSetOffset_serves (s : State) (c : Instr) (a : Nat) (b : Int) : Serves c s s (serveSetOffset a b s) := by
  unfold serveSetOffset; repeat' split
  all_goals simp

/-! ### RST -/

theorem serveStageHeader_serves (s : State) (c : Instr) (a b : Nat) (tag : List Byte) (d : Nat) : Serves c s s (serveStageHeader a b tag d s) := by
  unfold serveStageHeader; repeat' split
  all_goals simp

theorem serveStageStep_serves (s : State) (c : Instr) (i k se su : Nat) (tg : OptArg) (m p : Nat) (d x : OptArg) : Serves c s s (serveStageStep i k se su tg m p d x s) := by
  unfold serveStageStep; repeat' split
  all_goals simp

theorem serveStageLimits_serves (s : State) (c : Instr) (m a b r q : Nat) : Serves c s s (serveStageLimits m a b r q s) := by
  unfold serveStageLimits; repeat' split
  all_goals simp

theorem serveProgram_serves (s : State) (c : Instr) (n : Nat) : Serves c s s (serveProgram n s) := by
  unfold serveProgram; repeat' split
  any_goals exact .refuse _
  exact .accepted (((KeepsHeld.refl s).invalidate _).setRunning _) _

theorem serveErase_serves (s : State) (c : Instr) (n : Nat) : Serves c s s (serveErase n s) := by
  unfold serveErase; repeat' split
  any_goals exact .refuse _
  exact .accepted (((KeepsHeld.refl s).invalidate _).setRunning _) _

theorem serveBlankCheck_serves (s : State) (c : Instr) (n : Nat) : Serves c s s (serveBlankCheck n s) := by
  unfold serveBlankCheck; repeat' split
  any_goals exact .refuse _
  exact .accepted (((KeepsHeld.refl s).invalidate _).setRunning _) _

theorem serveLock_serves (s : State) (c : Instr) (n : Nat) : Serves c s s (serveLock n s) := by
  unfold serveLock; repeat' split
  all_goals simp

theorem serveSetStoreMode_serves (s : State) (c : Instr) (n : Nat) : Serves c s s (serveSetStoreMode n s) := by
  unfold serveSetStoreMode; repeat' split
  all_goals simp

theorem serveSetFetchPriority_serves (s : State) (c : Instr) (n : Nat) : Serves c s s (serveSetFetchPriority n s) := by
  unfold serveSetFetchPriority; repeat' split
  all_goals simp

theorem serveStoreClear_serves (s : State) (c : Instr) : Serves c s s (serveStoreClear s) := by
  unfold serveStoreClear; repeat' split
  all_goals simp

theorem serveLockOverride_serves (s : State) (c : Instr) : Serves c s s (serveLockOverride s) := by
  unfold serveLockOverride; repeat' split
  all_goals simp

theorem serveSuspend_serves (s : State) (c : Instr) : Serves c s s (serveSuspend s) := by
  unfold serveSuspend; repeat' split
  all_goals simp

theorem serveResume_serves (s : State) (c : Instr) : Serves c s s (serveResume s) := by
  unfold serveResume; repeat' split
  all_goals simp

theorem serveStop_serves (s : State) (c : Instr) : Serves c s s (serveStop s) := by
  unfold serveStop; split
  · exact .refuse _
  · exact .done (KeepsHeld.refl s).stopRunning.stopSuspended.clearOverride _

theorem serveClearStoreStatus_serves (s : State) (c : Instr) : Serves c s s (serveClearStoreStatus s) := .done (KeepsHeld.blocks ..) _

theorem serveReadRecipe_serves (s : State) (c : Instr) (a b : Nat) : Serves c s s (serveReadRecipe a b s) := by
  unfold serveReadRecipe; repeat' split
  all_goals simp

theorem serveReadStore_serves (s : State) (c : Instr) : Serves c s s (serveReadStore s) := .done (KeepsHeld.refl s) _

/-! ### PCU and TTB -/

theorem servePatchEdit_serves (s : State) (c : Instr) : Serves c s s (servePatchEdit s) := .done (KeepsHeld.blocks ..) _

theorem servePatchSet_serves (s : State) (c : Instr) (ch e b k sel f v : Nat) : Serves c s s (servePatchSet ch e b k sel f v s) := by
  unfold servePatchSet; repeat' split
  all_goals simp

theorem servePatchApply_serves (s : State) (c : Instr) : Serves c s s (servePatchApply s) := by
  unfold servePatchApply; repeat' split
  all_goals simp

theorem servePatchWithdraw_serves (s : State) (c : Instr) : Serves c s s (servePatchWithdraw s) := .done (KeepsHeld.blocks ..) _

theorem serveOpenTote_serves (s : State) (c : Instr) (n m k : Nat) : Serves c s s (serveOpenTote n m k s) := by
  unfold serveOpenTote; repeat' split
  · simp
  · simp
  · exact .done (((KeepsHeld.refl s).setTote _ _).trans (KeepsHeld.serveQueue _ _ _)) _
  · simp

theorem serveCloseTote_serves (s : State) (c : Instr) (n : Nat) : Serves c s s (serveCloseTote n s) := by
  unfold serveCloseTote; repeat' split
  all_goals simp

theorem serveReleaseTote_serves (s : State) (c : Instr) (n : Nat) : Serves c s s (serveReleaseTote n s) := by
  unfold serveReleaseTote; repeat' split
  all_goals simp

theorem serveReadTote_serves (s : State) (c : Instr) (a b : Nat) : Serves c s s (serveReadTote a b s) := by
  unfold serveReadTote; repeat' split
  all_goals simp

end Sys2Proof.Machine
end

section
/-! A request command is its link's request, served by the block that owns it (log entry 5): `service` names that service for
every request at once. -/

namespace Sys2Proof.Machine

/-- The service of each request by its owning block. An event has none. -/
def service : Instr → State → State × Reply
  | .takeNotice l => serveTakeNotice l
  | .setLevels l es => serveSetLevels l es
  | .setMask l m => serveSetMask l m
  | .readClock _ => serveReadClock
  | .setTime a b => serveSetTime a b
  | .setInputs a b c => serveSetInputs a b c
  | .powerOn n => servePowerOn n
  | .powerOff n => servePowerOff n
  | .setPower a b c => serveSetPower a b c
  | .setSerial n cs => serveSetSerial n cs
  | .start n m => serveStart n m
  | .advance n => serveAdvance n
  | .measure a b c => serveMeasure a b c
  | .finish n => serveFinish n
  | .abort a b => serveAbort a b
  | .readSlot _ n => serveReadSlot n
  | .accessRequest a b => serveAccessRequest a b
  | .accessDone a b => serveAccessDone a b
  | .accessCancel n => serveAccessCancel n
  | .quiet n => serveQuiet n
  | .setQuiet a b c => serveSetQuiet a b c
  | .setScan a b => serveSetScan a b
  | .setProfile a b c fs => serveSetProfile a b c fs
  | .setOffset a b => serveSetOffset a b
  | .stageHeader a b t c => storeRequest (serveStageHeader a b t c)
  | .stageStep i k se su t m p d x => storeRequest (serveStageStep i k se su t m p d x)
  | .stageLimits m a b r q => storeRequest (serveStageLimits m a b r q)
  | .program n => storeRequest (serveProgram n)
  | .erase n => storeRequest (serveErase n)
  | .blankCheck n => storeRequest (serveBlankCheck n)
  | .lock n => storeRequest (serveLock n)
  | .lockOverride => storeRequest serveLockOverride
  | .storeClear => storeRequest serveStoreClear
  | .suspend => storeRequest serveSuspend
  | .resume => storeRequest serveResume
  | .stop => storeRequest serveStop
  | .clearStoreStatus => storeRequest serveClearStoreStatus
  | .setStoreMode n => storeRequest (serveSetStoreMode n)
  | .setFetchPriority n => storeRequest (serveSetFetchPriority n)
  | .readRecipe a b => storeRequest (serveReadRecipe a b)
  | .readStore => storeRequest serveReadStore
  | .patchEdit => servePatchEdit
  | .patchSet a b c d e f g => servePatchSet a b c d e f g
  | .patchApply => servePatchApply
  | .patchWithdraw => servePatchWithdraw
  | .openTote a b c => serveOpenTote a b c
  | .closeTote n => serveCloseTote n
  | .releaseTote n => serveReleaseTote n
  | .readTote _ a b => serveReadTote a b
  | .rackReset => serveRackReset
  | _ => fun s => (s, .notYet)

/-- The meaning of a request command. -/
theorem exec_request (c : Instr) (l : Link) (s : State) (hl : requestLink c = some l) :
    exec c s = .next (s.request l c (service c)) := by
  cases c <;> cases hl <;> rfl

/-- A request ready on its link is served by its block. -/
theorem exec_ready (c : Instr) (l : Link) (s : State) (hl : requestLink c = some l) (h : s.Ready l c) :
    exec c s = .next ((service c s).1.settle l c (service c s).2) := by
  rw [exec_request c l s hl, s.request_ready l c _ h]

/-- A request ready on its link that is answered at once. -/
theorem exec_ready_now (c : Instr) (l : Link) (s t : State) (k : RespCode) (p : List Byte) (hl : requestLink c = some l)
    (h : s.Ready l c) (hs : service c s = (t, .now k p)) (ht : (t.link l).output = (s.link l).output) :
    exec c s = .next (t.answered l c k p) := by
  rw [exec_request c l s hl, State.request_now s t l c _ k p h hs ht]

/-- A request ready on its link that is refused. -/
theorem exec_ready_refused (c : Instr) (l : Link) (s : State) (k : RespCode) (hl : requestLink c = some l)
    (h : s.Ready l c) (hs : service c s = (s, .refuse k)) : exec c s = .next (s.answered l c k []) :=
  exec_ready_now c l s s k [] hl h hs rfl

/-- The requests of the links themselves, which change their own link's notices, levels or mask. -/
def isNoticeRequest : Instr → Bool
  | .takeNotice _ | .setLevels _ _ | .setMask _ _ => true
  | _ => false

/-- What the refusal of a request leaves: the lock override flag cleared for a request of Section 7 (R116), else everything. -/
def State.refusedBy (s : State) (c : Instr) : State := if storeCode (requestCode c) then s.clearOverride else s

/-- Every block serves its requests so; the notice requests of the links stand apart. -/
theorem service_serves (c : Instr) (s : State) (hn : isNoticeRequest c = false) (hs : ∀ n, c = .powerOn n → ∀ i, ¬ s.offAsked i)
    (hc : (requestLink c).isSome = true) : Serves c s (s.refusedBy c) (service c s) := by
  cases c with
  | takeNotice _ | setLevels _ _ | setMask _ _ => cases hn
  | readClock _ => exact serveReadClock_serves s _
  | setTime a b => exact serveSetTime_serves s _ a b
  | setInputs a b c => exact serveSetInputs_serves s _ a b c
  | powerOn n => exact servePowerOn_serves s _ n (hs n rfl)
  | powerOff n => exact servePowerOff_serves s n
  | setPower a b c => exact serveSetPower_serves s _ a b c
  | setSerial n cs => exact serveSetSerial_serves s _ n cs
  | start n m => exact serveStart_serves s n m
  | advance n => exact serveAdvance_serves s n
  | measure a b c => exact serveMeasure_serves s _ a b c
  | finish n => exact serveFinish_serves s n
  | abort a b => exact serveAbort_serves s _ a b
  | readSlot _ n => exact serveReadSlot_serves s _ n
  | accessRequest a b => exact serveAccessRequest_serves s _ a b
  | accessDone a b => exact serveAccessDone_serves s _ a b
  | accessCancel n => exact serveAccessCancel_serves s _ n
  | quiet n => exact serveQuiet_serves s _ n
  | setQuiet a b c => exact serveSetQuiet_serves s _ a b c
  | setScan a b => exact serveSetScan_serves s _ a b
  | setProfile a b c fs => exact serveSetProfile_serves s _ a b c fs
  | setOffset a b => exact serveSetOffset_serves s _ a b
  | stageHeader a b t c => exact (serveStageHeader_serves s _ a b t c).storeRequest
  | stageStep i k se su t m p d x => exact (serveStageStep_serves s _ i k se su t m p d x).storeRequest
  | stageLimits m a b r q => exact (serveStageLimits_serves s _ m a b r q).storeRequest
  | program n => exact (serveProgram_serves s _ n).storeRequest
  | erase n => exact (serveErase_serves s _ n).storeRequest
  | blankCheck n => exact (serveBlankCheck_serves s _ n).storeRequest
  | lock n => exact (serveLock_serves s _ n).storeRequest
  | lockOverride => exact (serveLockOverride_serves s _).storeRequest
  | storeClear => exact (serveStoreClear_serves s _).storeRequest
  | suspend => exact (serveSuspend_serves s _).storeRequest
  | resume => exact (serveResume_serves s _).storeRequest
  | stop => exact (serveStop_serves s _).storeRequest
  | clearStoreStatus => exact (serveClearStoreStatus_serves s _).storeRequest
  | setStoreMode n => exact (serveSetStoreMode_serves s _ n).storeRequest
  | setFetchPriority n => exact (serveSetFetchPriority_serves s _ n).storeRequest
  | readRecipe a b => exact (serveReadRecipe_serves s _ a b).storeRequest
  | readStore => exact (serveReadStore_serves s _).storeRequest
  | patchEdit => exact servePatchEdit_serves s _
  | patchSet a b c d e f g => exact servePatchSet_serves s _ a b c d e f g
  | patchApply => exact servePatchApply_serves s _
  | patchWithdraw => exact servePatchWithdraw_serves s _
  | openTote a b c => exact serveOpenTote_serves s _ a b c
  | closeTote n => exact serveCloseTote_serves s _ n
  | releaseTote n => exact serveReleaseTote_serves s _ n
  | readTote _ a b => exact serveReadTote_serves s _ a b
  | rackReset => exact serveRackReset_serves s _
  | _ => cases hc

end Sys2Proof.Machine
end

section
/-! The events that keep held requests and their work as they are: all but those of the links, the reset effect, a power-off
order and the answers to a fetch. -/

namespace Sys2Proof.Machine

/-- A meaning that keeps held requests and their work. -/
def NextKeeps (s : State) (o : Host.Outcome State Fault Refusal) : Prop := ∀ t, o = .next t → KeepsHeld s t

theorem KeepsHeld.next {s t : State} (h : KeepsHeld s t) : NextKeeps s (.next t) := by
  rintro _ ⟨⟩; exact h

@[simp] theorem nextKeeps_same (s : State) : NextKeeps s (.next s) := (KeepsHeld.refl s).next

section
variable (s : State)

/-! ### RCK and SIF -/

theorem execRackTimeAdvance_keeps : NextKeeps s (execRackTimeAdvance s) :=
  (KeepsHeld.refl s).oscillate.compareDeadlines.next

theorem execDeadlineExpiry_keeps (i : Slot) : NextKeeps s (execDeadlineExpiry i s) := by
  unfold execDeadlineExpiry; split
  · simp
  · exact (((KeepsHeld.refl s).setMail_orders i _ (by rfl)).serveExpiry i _).next

theorem execAccountingTick_keeps : NextKeeps s (execAccountingTick s) := by
  unfold execAccountingTick; split
  · simp
  · refine KeepsHeld.next (KeepsHeld.of_orders (KeepsHeld.refl s) ?_ ?_ ?_ ?_ fun i => ?_)
    · rfl
    · rfl
    · rfl
    · rfl
    · simp [State.mailOf]

theorem execSample_keeps (p q : BitVec 24) : NextKeeps s (execSample p q s) := by
  unfold execSample; split
  · exact ((KeepsHeld.refl s).sampleInputs p q).next
  · simp

/-! ### What reaches SSQ from SIF, and QAC -/

theorem execPresencePresentAtSsq_keeps (i : Slot) : NextKeeps s (execPresencePresentAtSsq i s) := by
  unfold execPresencePresentAtSsq; split
  · exact (((KeepsHeld.refl s).setMail_orders i _ (by rfl)).servePresent i _).next
  · simp

theorem execPresenceAbsentAtSsq_keeps (i : Slot) : NextKeeps s (execPresenceAbsentAtSsq i s) := by
  unfold execPresenceAbsentAtSsq; split
  · exact (((KeepsHeld.refl s).setMail_orders i _ (by rfl)).serveAbsent i).next
  · simp

theorem execLatchOpenAtSsq_keeps (i : Slot) : NextKeeps s (execLatchOpenAtSsq i s) := by
  unfold execLatchOpenAtSsq; split
  · exact (((KeepsHeld.refl s).setMail_orders i _ (by rfl)).serveLatchOpen i).next
  · simp

theorem execLatchClosedAtSsq_keeps (i : Slot) : NextKeeps s (execLatchClosedAtSsq i s) := by
  unfold execLatchClosedAtSsq; split
  · exact (((KeepsHeld.refl s).setMail_orders i _ (by rfl)).serveLatchClosed i).next
  · simp

theorem execPresenceChangeAtQac_keeps (i : Slot) : NextKeeps s (execPresenceChangeAtQac i s) := by
  unfold execPresenceChangeAtQac; split
  · simp
  · exact (((KeepsHeld.refl s).setMail_orders i _ (by rfl)).classChange i _).next

theorem execDisturbanceOrder_keeps (i : Slot) : NextKeeps s (execDisturbanceOrder i s) := by
  unfold execDisturbanceOrder; split
  · simp
  · exact (((KeepsHeld.refl s).setMail_orders i _ (by rfl)).applyDisturbance i).next

theorem execAskOrder_keeps (i : Slot) : NextKeeps s (execAskOrder i s) := by
  unfold execAskOrder; split
  · simp
  · exact (((KeepsHeld.refl s).setMail_orders i _ (by rfl)).applyAsk i).next

theorem execReleaseQuietOrder_keeps (i : Slot) : NextKeeps s (execReleaseQuietOrder i s) := by
  unfold execReleaseQuietOrder; split
  · simp
  · exact (((KeepsHeld.refl s).setMail_orders i _ (by rfl)).applyRelease i).next

theorem execSlotChangeReport_keeps (i : Slot) : NextKeeps s (execSlotChangeReport i s) := by
  unfold execSlotChangeReport; split
  · simp
  · exact ((((KeepsHeld.refl s).setMail_orders i _ (by rfl)).reportAt 0 i).reportAt 1 i).next

theorem execQuietTimeoutExpiry_keeps (r : Fin 2) : NextKeeps s (execQuietTimeoutExpiry r s) := by
  unfold execQuietTimeoutExpiry; repeat' split
  · exact ((KeepsHeld.refl s).endPending r _).next
  all_goals simp

theorem execHoldLimitExpiry_keeps (r : Fin 2) : NextKeeps s (execHoldLimitExpiry r s) := by
  unfold execHoldLimitExpiry; repeat' split
  · exact (((KeepsHeld.refl s).setAccess r _).post _ _).next
  all_goals simp

/-! ### PSQ and its reports -/

theorem execSpinDownOrder_keeps (i : Slot) : NextKeeps s (execSpinDownOrder i s) := by
  unfold execSpinDownOrder; split
  · next e => exact (((KeepsHeld.refl s).dropOrder i (by simp [e])).runSpinDown i).next
  · simp

theorem execReleaseOrder_keeps (i : Slot) : NextKeeps s (execReleaseOrder i s) := by
  unfold execReleaseOrder; split
  · next e => exact (((KeepsHeld.refl s).dropOrder i (by simp [e])).runRelease i).next
  · simp

theorem execSpinUpTimerExpiry_keeps (i : Slot) : NextKeeps s (execSpinUpTimerExpiry i s) := by
  unfold execSpinUpTimerExpiry; split
  · exact (((KeepsHeld.refl s).setPsq _).giveReport i _).lookAtQueue.next
  · simp

theorem execSpinDownTimerExpiry_keeps (i : Slot) : NextKeeps s (execSpinDownTimerExpiry i s) := by
  unfold execSpinDownTimerExpiry; split
  · exact (((KeepsHeld.refl s).setPsq _).giveReport i _).next
  · simp

theorem execSpinUpStartReport_keeps (i : Slot) : NextKeeps s (execSpinUpStartReport i s) := by
  unfold execSpinUpStartReport; repeat' split
  · exact (((KeepsHeld.refl s).dropReport i).putSlot i _).next
  · exact ((KeepsHeld.refl s).dropReport i).next
  · simp

theorem execSpinUpExpiry_keeps (i : Slot) : NextKeeps s (execSpinUpExpiry i s) := by
  unfold execSpinUpExpiry; repeat' split
  · exact ((((KeepsHeld.refl s).dropReport i).putSlot i _).post _ _).next
  · exact ((KeepsHeld.refl s).dropReport i).next
  · simp

theorem execSpinDownExpiry_keeps (i : Slot) : NextKeeps s (execSpinDownExpiry i s) := by
  unfold execSpinDownExpiry; split
  · exact (((KeepsHeld.refl s).dropReport i).serveSpunDown i).next
  · simp

/-! ### TAU -/

theorem execScanStart_keeps : NextKeeps s (execScanStart s) := by
  unfold execScanStart; split
  · exact (KeepsHeld.blocks ..).next
  · simp

theorem execSensorReading_keeps (r : Option SensorReply) : NextKeeps s (execSensorReading r s) := by
  unfold execSensorReading; split
  · exact (((KeepsHeld.blocks ..).takeCaptures _).serveReading _ r).next
  · simp

theorem execCreditEvent_keeps (i : Slot) : NextKeeps s (execCreditEvent i s) := by
  unfold execCreditEvent; split
  · simp
  · exact (((KeepsHeld.refl s).setMail_orders i _ (by rfl)).serveCredit i).next

theorem execCaptureReport_keeps (i : Slot) : NextKeeps s (execCaptureReport i s) := by
  unfold execCaptureReport; split
  · simp
  · exact (((KeepsHeld.refl s).setMail_orders i _ (by rfl)).setTemp i _).next

theorem execOvertempEvent_keeps (i : Slot) : NextKeeps s (execOvertempEvent i s) := by
  unfold execOvertempEvent; split
  · simp
  · exact (((KeepsHeld.refl s).setMail_orders i _ (by rfl)).serveOvertemp i).next

/-! ### RST -/

theorem execStartFetch_keeps : NextKeeps s (execStartFetch s) := by
  unfold execStartFetch; split
  · next e => exact ((KeepsHeld.refl s).fetchReaches _ (by rw [e]; rfl)).next
  · simp

theorem execStageFetch_keeps : NextKeeps s (execStageFetch s) := by
  unfold execStageFetch; split
  · next e => exact ((KeepsHeld.refl s).fetchReaches _ (by rw [e]; rfl)).next
  · simp

theorem execLimitsFetch_keeps : NextKeeps s (execLimitsFetch s) := by
  unfold execLimitsFetch; split
  · next e => exact ((KeepsHeld.refl s).fetchReaches _ (by rw [e]; rfl)).next
  · simp

theorem execProgramCompletion_keeps (q : Bool) : NextKeeps s (execProgramCompletion q s) := by
  unfold execProgramCompletion; split
  · exact ((KeepsHeld.refl s).programEnds _ _ _ q).next
  · simp

theorem execEraseCompletion_keeps (q : Bool) : NextKeeps s (execEraseCompletion q s) := by
  unfold execEraseCompletion; split
  · exact ((KeepsHeld.refl s).eraseEnds _ _ q).next
  · simp

theorem execBlankCheckCompletion_keeps (q : Bool) : NextKeeps s (execBlankCheckCompletion q s) := by
  unfold execBlankCheckCompletion; split
  · exact ((KeepsHeld.refl s).blankCheckEnds _ _ _ q).next
  · simp

theorem execLockCompletion_keeps : NextKeeps s (execLockCompletion s) := by
  unfold execLockCompletion; split
  · exact ((KeepsHeld.refl s).lockEnds _ _).next
  · simp

theorem execClearBlockErasure_keeps : NextKeeps s (execClearBlockErasure s) := by
  unfold execClearBlockErasure; repeat' split
  · exact (((KeepsHeld.refl s).invalidate _).setRunning _).next
  all_goals simp

theorem execClearBlockCompletion_keeps (q : Bool) : NextKeeps s (execClearBlockCompletion q s) := by
  unfold execClearBlockCompletion; split
  · exact ((KeepsHeld.refl s).clearBlockEnds _ _ _ q).next
  · simp

theorem execSuspensionEvent_keeps : NextKeeps s (execSuspensionEvent s) := by
  unfold execSuspensionEvent; repeat' split
  · exact ((KeepsHeld.refl s).answerWaiting.suspendOrGoOn _).clearOverride.next
  · exact ((KeepsHeld.refl s).suspendOrGoOn _).clearOverride.next
  all_goals simp

end

/-- The commands of the links, the reset effect, and the events that answer a held request. -/
def answersHeld : Instr → Bool
  | .requestFrame _ _ | .lengthFault _ _ | .frameTimeout _ | .responseSent _ | .receivedByte _ _ | .resetEffect
  | .powerOffOrder _ | .startFetchAnswer | .stageFetchAnswer | .limitsFetchAnswer => true
  | _ => false

/-- Every other event keeps held requests and their work. -/
theorem exec_event_keeps (c : Instr) (s : State) (hr : requestLink c = none) (ha : answersHeld c = false) :
    NextKeeps s (exec c s) := by
  cases c with
  | rackTimeAdvance => exact execRackTimeAdvance_keeps s
  | deadlineExpiry i => exact execDeadlineExpiry_keeps s i
  | accountingTick => exact execAccountingTick_keeps s
  | creditEvent i => exact execCreditEvent_keeps s i
  | sample p q => exact execSample_keeps s p q
  | presencePresentAtSsq i => exact execPresencePresentAtSsq_keeps s i
  | presenceAbsentAtSsq i => exact execPresenceAbsentAtSsq_keeps s i
  | latchOpenAtSsq i => exact execLatchOpenAtSsq_keeps s i
  | latchClosedAtSsq i => exact execLatchClosedAtSsq_keeps s i
  | presenceChangeAtQac i => exact execPresenceChangeAtQac_keeps s i
  | disturbanceOrder i => exact execDisturbanceOrder_keeps s i
  | spinUpStartReport i => exact execSpinUpStartReport_keeps s i
  | spinUpTimerExpiry i => exact execSpinUpTimerExpiry_keeps s i
  | spinUpExpiry i => exact execSpinUpExpiry_keeps s i
  | spinDownOrder i => exact execSpinDownOrder_keeps s i
  | releaseOrder i => exact execReleaseOrder_keeps s i
  | spinDownTimerExpiry i => exact execSpinDownTimerExpiry_keeps s i
  | spinDownExpiry i => exact execSpinDownExpiry_keeps s i
  | startFetch => exact execStartFetch_keeps s
  | stageFetch => exact execStageFetch_keeps s
  | limitsFetch => exact execLimitsFetch_keeps s
  | captureReport i => exact execCaptureReport_keeps s i
  | overtempEvent i => exact execOvertempEvent_keeps s i
  | askOrder i => exact execAskOrder_keeps s i
  | slotChangeReport i => exact execSlotChangeReport_keeps s i
  | quietTimeoutExpiry r => exact execQuietTimeoutExpiry_keeps s r
  | holdLimitExpiry r => exact execHoldLimitExpiry_keeps s r
  | releaseQuietOrder i => exact execReleaseQuietOrder_keeps s i
  | scanStart => exact execScanStart_keeps s
  | sensorReading r => exact execSensorReading_keeps s r
  | programCompletion q => exact execProgramCompletion_keeps s q
  | eraseCompletion q => exact execEraseCompletion_keeps s q
  | blankCheckCompletion q => exact execBlankCheckCompletion_keeps s q
  | lockCompletion => exact execLockCompletion_keeps s
  | clearBlockErasure => exact execClearBlockErasure_keeps s
  | clearBlockCompletion q => exact execClearBlockCompletion_keeps s q
  | suspensionEvent => exact execSuspensionEvent_keeps s
  | requestFrame _ _ | lengthFault _ _ | frameTimeout _ | responseSent _ | receivedByte _ _ | resetEffect
  | powerOffOrder _ | startFetchAnswer | stageFetchAnswer | limitsFetchAnswer => cases ha
  | _ => cases hr

end Sys2Proof.Machine
end

section
/-! Table 1-4 as lists of codes (1.3), and the link of a request that is read from a frame (R2, R6). -/

namespace Sys2Proof.Machine

/-- The codes that Table 1-4 permits on each link. -/
def linkCodes : Link → List Nat
  | .test => [0x01, 0x02, 0x03, 0x04, 0x10, 0x11, 0x18, 0x19, 0x1A, 0x1B, 0x1C, 0x1D, 0x1E, 0x23]
  | .handler => [0x01, 0x02, 0x03, 0x04, 0x1E, 0x20, 0x21, 0x22, 0x52]
  | .line => [0x01, 0x02, 0x03, 0x04, 0x05, 0x12, 0x13, 0x1E, 0x24, 0x28, 0x29, 0x2A, 0x30, 0x31, 0x32, 0x33, 0x34, 0x35,
      0x36, 0x37, 0x38, 0x39, 0x3A, 0x3B, 0x3C, 0x3D, 0x3E, 0x3F, 0x40, 0x48, 0x49, 0x4A, 0x4B, 0x50, 0x51, 0x52, 0x53, 0x5F]

theorem linkCodes_eq (l : Link) : linkCodes l = (requestTable.filter (·.mark l)).map (·.code) := by cases l <;> rfl

theorem permitted_iff (n : Nat) (l : Link) : permitted n l = true ↔ n ∈ linkCodes l := by
  rw [linkCodes_eq]
  simp [permitted, and_comm, and_left_comm]

theorem knownCode_iff (n : Nat) : knownCode n = true ↔ ∃ l, n ∈ linkCodes l := by
  have marked : ∀ r ∈ requestTable, r.mark .test || r.mark .handler || r.mark .line := by decide
  simp only [linkCodes_eq, List.mem_map, List.mem_filter, knownCode, List.any_eq_true, beq_iff_eq]
  constructor
  · rintro ⟨r, hr, rfl⟩
    have := marked r hr
    simp only [Bool.or_eq_true] at this
    rcases this with (h | h) | h
    · exact ⟨.test, r, ⟨hr, h⟩, rfl⟩
    · exact ⟨.handler, r, ⟨hr, h⟩, rfl⟩
    · exact ⟨.line, r, ⟨hr, h⟩, rfl⟩
  · rintro ⟨l, r, ⟨hr, -⟩, rfl⟩
    exact ⟨r, hr, rfl⟩

/-- The codes of the requests whose arguments end in a list or hold a string: SET LEVELS, SET SERIAL, SET PROFILE and STAGE
HEADER. -/
def listCodes : List Nat := [0x02, 0x18, 0x29, 0x30]

theorem decodeRequest_setLevels {l : Link} {p : List Byte} {c : Instr} (hd : decodeRequest l 0x02 p = some c) :
    ∃ es, c = .setLevels l es := by
  rcases p with _ | ⟨n, es⟩
  · cases hd
  · change ((pairsOf? es).bind fun ps => if ps.length = n.toNat then some (Instr.setLevels l ps) else none) = some c at hd
    obtain ⟨ps, -, h⟩ := Option.bind_eq_some_iff.1 hd
    exact ⟨ps, (Option.some.inj (Option.ite_none_right_eq_some.1 h).2).symm⟩

theorem decodeRequest_setSerial {l : Link} {p : List Byte} {c : Instr} (hd : decodeRequest l 0x18 p = some c) :
    ∃ i cs, c = .setSerial i cs := by
  rcases p with _ | ⟨i, _ | ⟨n, cs⟩⟩
  · cases hd
  · cases hd
  · change (if cs.length = n.toNat then some (Instr.setSerial i.toNat cs) else none) = some c at hd
    exact ⟨_, _, (Option.some.inj (Option.ite_none_right_eq_some.1 hd).2).symm⟩

theorem decodeRequest_setProfile {l : Link} {p : List Byte} {c : Instr} (hd : decodeRequest l 0x29 p = some c) :
    ∃ a b w fs, c = .setProfile a b w fs := by
  rcases p with _ | ⟨a, _ | ⟨b1, _ | ⟨b0, _ | ⟨w, fs⟩⟩⟩⟩
  · cases hd
  · cases hd
  · cases hd
  · cases hd
  · change (if fs.length = 16 then some (Instr.setProfile a.toNat (signedOf 16 (beNat [b1, b0])) w.toNat (fs.map (·.toNat)))
      else none) = some c at hd
    exact ⟨_, _, _, _, (Option.some.inj (Option.ite_none_right_eq_some.1 hd).2).symm⟩

theorem decodeRequest_stageHeader {l : Link} {p : List Byte} {c : Instr} (hd : decodeRequest l 0x30 p = some c) :
    ∃ a r tag m, c = .stageHeader a r tag m := by
  rcases p with _ | ⟨a, _ | ⟨b, _ | ⟨r, _ | ⟨n, rest⟩⟩⟩⟩
  · cases hd
  · cases hd
  · cases hd
  · cases hd
  · obtain ⟨⟨tag, tail⟩, -, h⟩ := Option.bind_eq_some_iff.1 hd
    rcases tail with _ | ⟨x, _ | ⟨y, _ | ⟨z, tail⟩⟩⟩
    · cases h
    · cases h
    · exact ⟨_, _, _, _, (Option.some.inj h).symm⟩
    · cases h

/-- The codes of the requests with four argument bytes or more, of a fixed number: SET TIME, MEASURE, STAGE STEP, STAGE LIMITS,
PATCH SET and OPEN TOTE. -/
def longCodes : List Nat := [0x05, 0x1B, 0x31, 0x32, 0x49, 0x50]

/-- A long request has fifteen argument bytes at most. -/
theorem requestLink_of_decodeRequest_long (l : Link) (n : Nat) (p : List Byte) (c : Instr)
    (hn : n ∈ (linkCodes l).filter (· ∈ longCodes)) (hd : decodeRequest l n p = some c) : requestLink c = some l := by
  cases l <;> fin_cases hn
  all_goals rcases p with _ | ⟨_, _ | ⟨_, _ | ⟨_, _ | ⟨_, _ | ⟨_, _ | ⟨_, _ | ⟨_, _ | ⟨_, _ | ⟨_, _ | ⟨_, _ | ⟨_, _ | ⟨_, _ |
    ⟨_, _ | ⟨_, _ | ⟨_, _ | ⟨_, _⟩⟩⟩⟩⟩⟩⟩⟩⟩⟩⟩⟩⟩⟩⟩⟩
  all_goals cases hd <;> rfl

/-- Every other request has three argument bytes at most. -/
theorem requestLink_of_decodeRequest_short (l : Link) (n : Nat) (p : List Byte) (c : Instr)
    (hn : n ∈ (linkCodes l).filter (· ∉ listCodes ++ longCodes)) (hd : decodeRequest l n p = some c) :
    requestLink c = some l := by
  cases l <;> fin_cases hn
  all_goals rcases p with _ | ⟨_, _ | ⟨_, _ | ⟨_, _ | ⟨_, _⟩⟩⟩⟩
  all_goals cases hd <;> rfl

/-- A request read from a frame that Table 1-4 permits on a link comes on that link. -/
theorem requestLink_of_decodeRequest (l : Link) (n : Nat) (p : List Byte) (c : Instr) (hp : permitted n l = true)
    (hd : decodeRequest l n p = some c) : requestLink c = some l := by
  by_cases hn : n ∈ listCodes
  · have only (m : Link) (h : ∀ k, permitted n k = true → k = m) : m = l := (h l hp).symm
    simp only [listCodes, List.mem_cons, List.not_mem_nil, or_false] at hn
    rcases hn with rfl | rfl | rfl | rfl
    · obtain ⟨es, rfl⟩ := decodeRequest_setLevels hd
      rfl
    · obtain ⟨i, cs, rfl⟩ := decodeRequest_setSerial hd
      exact congrArg some (only .test (by intro k; cases k <;> decide))
    · obtain ⟨a, b, w, fs, rfl⟩ := decodeRequest_setProfile hd
      exact congrArg some (only .line (by intro k; cases k <;> decide))
    · obtain ⟨a, r, tag, m, rfl⟩ := decodeRequest_stageHeader hd
      exact congrArg some (only .line (by intro k; cases k <;> decide))
  · have hmem := (permitted_iff n l).1 hp
    by_cases hlong : n ∈ longCodes
    · exact requestLink_of_decodeRequest_long l n p c (List.mem_filter.2 ⟨hmem, by simpa using hlong⟩) hd
    · exact requestLink_of_decodeRequest_short l n p c (List.mem_filter.2 ⟨hmem, by simp [hn, hlong]⟩) hd

end Sys2Proof.Machine
end

section
/-! The laws of the links: what posts a notice, answers or takes a request, or receives a byte keeps them (R1, R3, R4, R8, R9,
R11, R12). -/

namespace Sys2Proof.Machine

/-! ### One link -/

namespace LinkLaws

variable {l : Link} {ls : LinkState}

/-- Receiver, output list and held request replaced; the notices, their levels, the mask and the attention line stay. -/
theorem traffic (h : LinkLaws l ls) (r : Receiver) (b : Nat) (x : Option Held) (o : List (List Byte))
    (hr : r.fits = true) (ho : o.length ≤ Config.outputDepth)
    (hw : ∀ y ∈ x, y.request? = none → o.length = Config.outputDepth)
    (hh : ∀ y ∈ x, ∀ c ∈ y.request?, requestLink c = some l) :
    LinkLaws l { ls with receiver := r, lastByteAt := b, held := x, output := o } :=
  ⟨h.attention, ho, hw, h.noticeOnce, h.noticeRecorded, h.levels, h.mask, hr, hh⟩

/-- The receiver moved on. -/
theorem receive (h : LinkLaws l ls) (r : Receiver) (b : Nat) (hr : r.fits = true) :
    LinkLaws l { ls with receiver := r, lastByteAt := b } :=
  h.traffic r b ls.held ls.output hr h.output h.waits h.heldHere

theorem setReceiver (h : LinkLaws l ls) (r : Receiver) (hr : r.fits = true) : LinkLaws l { ls with receiver := r } :=
  h.receive r ls.lastByteAt hr

/-- No request held any more. -/
theorem release (h : LinkLaws l ls) (o : List (List Byte)) (ho : o.length ≤ Config.outputDepth) :
    LinkLaws l { ls with output := o, held := none } :=
  h.traffic ls.receiver ls.lastByteAt none o h.receiver ho (by rintro _ ⟨⟩) (by rintro _ ⟨⟩)

/-- A request of this link held, passed or being served. -/
theorem hold (h : LinkLaws l ls) (x : Held) (c : Instr) (hx : x.request? = some c) (hc : requestLink c = some l) :
    LinkLaws l { ls with held := some x } := by
  refine h.traffic ls.receiver ls.lastByteAt (some x) ls.output h.receiver h.output ?_ ?_
  · rintro _ ⟨⟩ hy; rw [hx] at hy; cases hy
  · rintro _ ⟨⟩ d hd; rw [hx] at hd; cases hd; exact hc

/-- A posted notice (R8). -/
theorem notice (h : LinkLaws l ls) (p : NoticeKind × Nat) : LinkLaws l (ls.notice l p) := by
  unfold LinkState.notice LinkState.post
  split
  · next hr =>
    split
    · exact h
    · next hp =>
      obtain ⟨hlevel, hmem⟩ := not_or.mp hp
      refine ⟨rfl, h.output, h.waits, ?_, ?_, h.levels, h.mask, h.receiver, h.heldHere⟩
      · exact List.nodup_append.2 ⟨h.noticeOnce, List.nodup_singleton _, by
          rintro a ha _ hb rfl; exact hmem (List.mem_singleton.1 hb ▸ ha)⟩
      · intro q hq
        rcases List.mem_append.1 hq with hq | hq
        · exact h.noticeRecorded q hq
        · cases List.mem_singleton.1 hq
          exact ⟨hr, Nat.one_le_iff_ne_zero.2 hlevel⟩
  · exact h

theorem notices (ps : List (NoticeKind × Nat)) : ∀ ls, LinkLaws l ls → LinkLaws l (ps.foldl (LinkState.notice l) ls) := by
  induction ps with
  | nil => exact fun _ h => h
  | cons p ps ih => exact fun ls h => ih _ (h.notice p)

/-- The response to a taken request (R3, R4). -/
theorem respond (h : LinkLaws l ls) (f : List Byte) : LinkLaws l (ls.respond f) := by
  unfold LinkState.respond LinkState.hasRoom
  split
  · next hr => exact h.release _ (by simp at hr; simp; omega)
  · next hr =>
    have full : ls.output.length = Config.outputDepth := by have := h.output; simp at hr; omega
    exact h.traffic ls.receiver ls.lastByteAt _ ls.output h.receiver h.output (fun _ _ _ => full) (by rintro _ ⟨⟩ _ ⟨⟩)

/-- An answer to a frame that was not taken: lost when the output list is full (R4). -/
theorem answerUntaken (h : LinkLaws l ls) (n : Nat) (k : RespCode) : LinkLaws l (ls.answerUntaken n k) := by
  unfold LinkState.answerUntaken LinkState.hasRoom
  split
  · next hr =>
    simp only [decide_eq_true_eq] at hr
    refine h.traffic ls.receiver ls.lastByteAt ls.held _ h.receiver (by simp; omega) ?_ h.heldHere
    intro y hy hq
    have := h.waits y hy hq
    omega
  · exact h

/-- A frame sent: a response that waited then enters (R4). -/
theorem sent (h : LinkLaws l ls) (f : List Byte) (rest : List (List Byte)) (ho : ls.output = f :: rest) :
    LinkLaws l ({ ls with output := rest } : LinkState).enter := by
  have room : rest.length < Config.outputDepth := by have := h.output; rw [ho, List.length_cons] at this; omega
  unfold LinkState.enter LinkState.hasRoom
  split
  · next g hg =>
    rw [if_pos (by simpa using room)]
    exact h.release _ (by simp; omega)
  · next hn =>
    refine h.traffic ls.receiver ls.lastByteAt ls.held rest h.receiver room.le ?_ h.heldHere
    intro y hy hq
    cases y with
    | answered g => exact absurd hy (hn g)
    | passed c => cases hq
    | serving c => cases hq

/-- Some notices taken out of the set, the attention line re-evaluated (R9). -/
theorem fewer (h : LinkLaws l ls) (ps : List (NoticeKind × Nat)) (hp : ps.Sublist ls.notices) :
    LinkLaws l ({ ls with notices := ps } : LinkState).refresh :=
  ⟨rfl, h.output, h.waits, h.noticeOnce.sublist hp, fun p hm => h.noticeRecorded p (hp.subset hm), h.levels, h.mask,
    h.receiver, h.heldHere⟩

end LinkLaws

/-! ### Levels (R11) -/

theorem place_injective {j k : NoticeKind} (h : j.place = k.place) : j = k := by
  cases j <;> cases k <;> first | rfl | exact absurd h (by decide)

/-- The kind a code names is the one with that code. -/
theorem noticeKindOf?_iff (n : Nat) (k : NoticeKind) : noticeKindOf? n = some k ↔ k.code = n := by
  constructor
  · intro h
    unfold noticeKindOf? at h
    split at h
    · cases h
    · next h0 =>
      obtain ⟨m, rfl⟩ : ∃ m, n = m + 1 := ⟨n - 1, by omega⟩
      have hm : m < 18 := (List.getElem?_eq_some_iff.1 h).1
      rw [Nat.add_sub_cancel] at h
      clear h0
      interval_cases m <;> cases h <;> rfl
  · rintro rfl
    cases k <;> rfl

/-- One entry of SET LEVELS writes the level of its kind alone. -/
theorem tget_writeLevel (v : Vector Nat 18) (e : Nat × Nat) (k : NoticeKind) :
    tget (writeLevel v e) k.place = if k.code = e.1 then e.2 else tget v k.place := by
  unfold writeLevel
  split
  · next j hj =>
    rw [noticeKindOf?_iff] at hj
    rw [tget_tset]
    by_cases e' : k = j
    · subst e'; simp [hj]
    · rw [if_neg fun hp => e' (place_injective hp), if_neg]
      intro hk
      have : noticeKindOf? e.1 = some j := (noticeKindOf?_iff _ _).2 hj
      rw [(noticeKindOf?_iff _ _).2 hk] at this
      exact e' (Option.some.inj this)
  · next hn => rw [if_neg fun hk => by rw [(noticeKindOf?_iff _ _).2 hk] at hn; cases hn]

/-- A kind that no entry names keeps its level. -/
theorem tget_writeLevels_absent (es : List (Nat × Nat)) (k : NoticeKind) (hk : k.code ∉ es.map (·.1)) :
    ∀ v : Vector Nat 18, tget (es.foldl writeLevel v) k.place = tget v k.place := by
  induction es with
  | nil => exact fun _ => rfl
  | cons e es ih =>
    intro v
    rw [List.map_cons, List.mem_cons, not_or] at hk
    rw [List.foldl_cons, ih hk.2, tget_writeLevel, if_neg hk.1]

/-- A kind that one entry names takes that entry's level. -/
theorem tget_writeLevels_named (es : List (Nat × Nat)) (k : NoticeKind) (n : Nat) (hn : (es.map (·.1)).Nodup)
    (he : (k.code, n) ∈ es) : ∀ v : Vector Nat 18, tget (es.foldl writeLevel v) k.place = n := by
  induction es with
  | nil => cases he
  | cons e es ih =>
    intro v
    rw [List.map_cons, List.nodup_cons] at hn
    rcases List.mem_cons.1 he with rfl | he
    · rw [List.foldl_cons, tget_writeLevels_absent es k hn.1, tget_writeLevel, if_pos rfl]
    · exact ih hn.2 he _

/-- Levels within bounds stay so under entries within bounds. -/
theorem writeLevels_le (es : List (Nat × Nat)) (he : ∀ e ∈ es, e.2 ≤ 15) :
    ∀ v : Vector Nat 18, (∀ p, tget v p ≤ 15) → ∀ p, tget (es.foldl writeLevel v) p ≤ 15 := by
  induction es with
  | nil => exact fun _ h => h
  | cons e es ih =>
    intro v hv
    refine ih (fun d hd => he d (List.mem_cons_of_mem _ hd)) _ fun p => ?_
    unfold writeLevel
    split
    · rw [tget_tset]; split
      · exact he e List.mem_cons_self
      · exact hv p
    · exact hv p

/-- The list of SET LEVELS that passes, in words of R11. -/
theorem levelsOk_iff (l : Link) (es : List (Nat × Nat)) : levelsOk l es = true ↔
    1 ≤ es.length ∧ es.length ≤ 18 ∧ (es.map (·.1)).Nodup ∧
      ∀ e ∈ es, e.2 ≤ 15 ∧ ∃ k : NoticeKind, k.code = e.1 ∧ k.recordedOn l = true := by
  have entry : ∀ e : Nat × Nat, levelEntryOk l e = true ↔ e.2 ≤ 15 ∧ ∃ k : NoticeKind, k.code = e.1 ∧ k.recordedOn l = true := by
    intro e
    unfold levelEntryOk
    constructor
    · split
      · next k hk => intro h; simp at h; exact ⟨h.2, k, (noticeKindOf?_iff _ _).1 hk, h.1⟩
      · nofun
    · rintro ⟨hle, k, hk, hrec⟩
      rw [(noticeKindOf?_iff _ _).2 hk]
      simp [hrec, hle]
  simp only [levelsOk, Bool.and_eq_true, decide_eq_true_eq, List.all_eq_true, entry]
  tauto

/-- SET LEVELS with a list that passes (R11): a kind set to level 0 leaves the set, any other keeps a level of 1 or more. -/
theorem LinkLaws.withLevels {l : Link} {ls : LinkState} (h : LinkLaws l ls) (es : List (Nat × Nat))
    (hes : levelsOk l es = true) : LinkLaws l (ls.withLevels es) := by
  obtain ⟨-, -, hnodup, hentries⟩ := (levelsOk_iff l es).1 hes
  refine ⟨rfl, h.output, h.waits, h.noticeOnce.sublist List.filter_sublist, ?_,
    writeLevels_le es (fun e he => (hentries e he).1) _ h.levels, h.mask, h.receiver, h.heldHere⟩
  intro p hp
  obtain ⟨hmem, hloud⟩ := List.mem_filter.1 hp
  obtain ⟨hrec, hlevel⟩ := h.noticeRecorded p hmem
  refine ⟨hrec, ?_⟩
  change 1 ≤ tget (es.foldl writeLevel ls.levels) p.1.place
  by_cases hk : p.1.code ∈ es.map (·.1)
  · obtain ⟨⟨code, n⟩, he, rfl⟩ := List.mem_map.1 hk
    rw [tget_writeLevels_named es p.1 n hnodup he]
    by_contra h0
    have : silenced es p = true := List.any_eq_true.2 ⟨_, he, by simp; omega⟩
    simp [this] at hloud
  · rw [tget_writeLevels_absent es p.1 hk]; exact hlevel

/-! ### The links together -/

/-- Every link keeps its laws. -/
def LinksLawful (s : State) : Prop := ∀ l, LinkLaws l (s.link l)

theorem linksLawful_iff (s : State) : LinksLawful s ↔
    LinkLaws .test s.testLink ∧ LinkLaws .handler s.handlerLink ∧ LinkLaws .line s.lineLink :=
  ⟨fun h => ⟨h .test, h .handler, h .line⟩, fun ⟨t, hd, ln⟩ l => by cases l <;> assumption⟩

theorem Lawful.links {s : State} (h : Lawful s) : LinksLawful s := (linksLawful_iff s).2 ⟨h.test, h.handler, h.line⟩

namespace LinksLawful

variable {s t : State}

/-- One link replaced by one that keeps its laws. -/
theorem setLink (h : LinksLawful s) (l : Link) (ls : LinkState) (hl : LinkLaws l ls) : LinksLawful (s.setLink l ls) := by
  intro m
  by_cases e : m = l
  · subst e; rw [State.link_setLink_same]; exact hl
  · rw [State.link_setLink_ne s l m ls e]; exact h m

theorem of_keepsHeld (h : LinksLawful s) (k : KeepsHeld s t) : LinksLawful t := by
  intro l
  obtain ⟨ps, hps⟩ := k.links l
  rw [hps]
  exact LinkLaws.notices ps _ (h l)

theorem of_links (h : LinksLawful s) (hl : ∀ l, t.link l = s.link l) : LinksLawful t := fun l => hl l ▸ h l

theorem respond (h : LinksLawful s) (l : Link) (n : Nat) (k : RespCode) (p : List Byte) : LinksLawful (s.respond l n k p) :=
  h.setLink l _ ((h l).respond _)

theorem answerUntaken (h : LinksLawful s) (l : Link) (n : Nat) (k : RespCode) : LinksLawful (s.answerUntaken l n k) :=
  h.setLink l _ ((h l).answerUntaken n k)

theorem clearOverride (h : LinksLawful s) : LinksLawful s.clearOverride := h.of_keepsHeld (KeepsHeld.refl s).clearOverride

theorem refuseTaken (h : LinksLawful s) (l : Link) (n : Nat) (k : RespCode) : LinksLawful (s.refuseTaken l n k) := by
  unfold State.refuseTaken
  split
  · exact h.clearOverride.respond l n k []
  · exact h.respond l n k []

/-- The link takes note of what the owning block made of its request. -/
theorem settle (h : LinksLawful s) (l : Link) (c : Instr) (r : Reply) (hc : requestLink c = some l) :
    LinksLawful (s.settle l c r) := by
  cases r with
  | now k p => exact h.respond l _ k p
  | later => exact h.setLink l _ ((h l).hold (.serving c) c rfl hc)
  | notYet => exact h.setLink l _ ((h l).hold (.passed c) c rfl hc)

/-! ### The receiver (R1, R2) -/

theorem takeFrame (h : LinksLawful s) (l : Link) (n : Nat) (p : List Byte) : LinksLawful (s.takeFrame l n p) := by
  unfold State.takeFrame
  repeat' split
  · exact h.refuseTaken l n _
  · exact h.refuseTaken l n _
  · exact h.refuseTaken l n _
  · next hp _ c hd =>
    exact h.setLink l _ ((h l).hold (.passed c) c rfl (requestLink_of_decodeRequest l n p c (by simpa using hp) hd))

theorem completeFrame (h : LinksLawful s) (l : Link) (n : Nat) (p : List Byte) : LinksLawful (s.completeFrame l n p) := by
  unfold State.completeFrame
  dsimp only
  repeat' split
  · exact h.answerUntaken l _ _
  · exact h.answerUntaken l _ _
  · exact h.takeFrame l _ _

theorem hunt (h : LinksLawful s) (l : Link) : LinksLawful (s.setReceiver l .hunt) :=
  h.setLink l _ ((h l).setReceiver .hunt rfl)

theorem goOn (h : LinksLawful s) (l : Link) (r : Receiver) (hr : r.fits = true) : LinksLawful (s.goOn l r) :=
  h.setLink l _ ((h l).receive r _ hr)

theorem receive (h : LinksLawful s) (l : Link) (x : Byte) : LinksLawful (s.receive l x) := by
  unfold State.receive
  split
  · split
    · exact h.goOn l .header rfl
    · exact h
  · split
    · exact (h.hunt l).answerUntaken l 0 .badFrame
    · next hx => exact h.goOn l _ (by simp [Receiver.fits]; omega)
  · next n rs e =>
    have fits := (h l).receiver
    rw [e] at fits
    simp only [Receiver.fits, decide_eq_true_eq] at fits
    split
    · exact (h.hunt l).completeFrame l n _
    · exact h.goOn l _ (by simp [Receiver.fits]; omega)

theorem receiveAll (l : Link) (xs : List Byte) : ∀ s, LinksLawful s → LinksLawful (xs.foldl (fun t x => t.receive l x) s) := by
  induction xs with
  | nil => exact fun _ h => h
  | cons x xs ih => exact fun s h => ih _ (h.receive l x)

end LinksLawful

end Sys2Proof.Machine
end

section
/-! What answers a held request: the outcome of a power-off order and the answers to a fetch; and the ways a request goes. -/

namespace Sys2Proof.Machine

/-- The ways a request goes, with what its link held: it is served, refused by its link, or answered OVERRUN. -/
theorem State.request_ways (s : State) (l : Link) (c : Instr) (serve : State → State × Reply) :
    (((s.link l).held = none ∨ (s.link l).held = some (.passed c)) ∧
      s.request l c serve = (serve s).1.settle l c (serve s).2) ∨
    ((s.link l).held = none ∧ s.request l c serve = s.refuseTaken l (requestCode c) .notPermitted) ∨
    s.request l c serve = s.answerUntaken l (requestCode c) .overrun := by
  unfold State.request
  split
  · next h => split <;> simp [h]
  · next x h =>
    split
    · next e => subst e; simp [h]
    · simp

/-- The answer of a start fetch is the answer to START. -/
theorem State.serveStartAnswer_responds (s : State) (i : Slot) (id : Nat) (r : FetchResult) :
    ∃ u k p, s.serveStartAnswer i id r = u.respond .test 0x19 k p ∧ KeepsHeld s u := by
  have keep := KeepsHeld.refl s
  unfold State.serveStartAnswer
  split
  · exact ⟨_, _, _, rfl, keep⟩
  · exact ⟨_, _, _, rfl, keep⟩
  · split
    · exact ⟨_, _, _, rfl, keep.capture i _ _ _⟩
    · exact ⟨_, _, _, rfl, keep.releaseRef _⟩
  · exact ⟨_, _, _, rfl, keep⟩

/-- The answer of a stage fetch is the answer to ADVANCE. -/
theorem State.serveStageAnswer_responds (s : State) (i : Slot) (n : Nat) (r : FetchResult) :
    ∃ u k p, s.serveStageAnswer i n r = u.respond .test 0x1A k p ∧ KeepsHeld s u := by
  have keep := KeepsHeld.refl s
  unfold State.serveStageAnswer
  split
  · exact ⟨_, _, _, rfl, keep⟩
  · split
    · exact ⟨_, _, _, rfl, keep.capture i _ _ _⟩
    · exact ⟨_, _, _, rfl, keep⟩
  · exact ⟨_, _, _, rfl, keep⟩

/-- The answer of a limits fetch is the answer to FINISH. -/
theorem State.serveLimitsAnswer_responds (s : State) (i : Slot) (r : FetchResult) :
    ∃ u k p, s.serveLimitsAnswer i r = u.respond .test 0x1C k p ∧ KeepsHeld s u := by
  have keep := KeepsHeld.refl s
  unfold State.serveLimitsAnswer
  split
  · exact ⟨_, _, _, rfl, keep⟩
  · split
    · exact ⟨_, _, _, rfl, keep.gradeToSpinDown i _ _ _⟩
    · exact ⟨_, _, _, rfl, keep⟩
  · exact ⟨_, _, _, rfl, keep⟩

/-- The fetch `f` is over, and the request that waited on it is answered with code `n`. -/
def FetchAnswered (s t : State) : Prop :=
  ∃ f r u n k p, s.fetch = .answered f r ∧ t = u.respond .test n k p ∧ KeepsHeld s.endFetch u

theorem execStartFetchAnswer_cases (s t : State) (h : execStartFetchAnswer s = .next t) : t = s ∨ FetchAnswered s t := by
  unfold execStartFetchAnswer at h
  split at h <;> cases h
  · next i id r hf =>
    obtain ⟨u, k, p, e, keep⟩ := s.endFetch.serveStartAnswer_responds i id r
    exact .inr ⟨_, r, u, _, k, p, hf, e, keep⟩
  · exact .inl rfl

theorem execStageFetchAnswer_cases (s t : State) (h : execStageFetchAnswer s = .next t) : t = s ∨ FetchAnswered s t := by
  unfold execStageFetchAnswer at h
  split at h <;> cases h
  · next i _ n r hf =>
    obtain ⟨u, k, p, e, keep⟩ := s.endFetch.serveStageAnswer_responds i n r
    exact .inr ⟨_, r, u, _, k, p, hf, e, keep⟩
  · exact .inl rfl

theorem execLimitsFetchAnswer_cases (s t : State) (h : execLimitsFetchAnswer s = .next t) : t = s ∨ FetchAnswered s t := by
  unfold execLimitsFetchAnswer at h
  split at h <;> cases h
  · next i _ r hf =>
    obtain ⟨u, k, p, e, keep⟩ := s.endFetch.serveLimitsAnswer_responds i r
    exact .inr ⟨_, r, u, _, k, p, hf, e, keep⟩
  · exact .inl rfl

/-- A power-off order served: one that a POWER OFF waits on answers it (R42). -/
theorem execPowerOffOrder_cases (s t : State) (i : Slot) (h : execPowerOffOrder i s = .next t) :
    KeepsHeld s t ∨ ∃ u, (s.mailOf i).orders.head? = some (.powerOff true) ∧ KeepsHeld (s.dropOrder i) u ∧
      t = u.respond .test 0x11 .done [] := by
  unfold execPowerOffOrder at h
  split at h
  · next q hq =>
    cases h
    cases q with
    | true => exact .inr ⟨_, hq, (KeepsHeld.refl _).takeOutcome_look i _ _, rfl⟩
    | false => exact .inl (((KeepsHeld.refl s).dropOrder i (by simp [hq])).runOrder i (.powerOff false) (by decide))
  · cases h; exact .inl (KeepsHeld.refl s)

/-! ### Held requests and their work (R3, R55, R61, R64, R41) -/

/-- Notices leave the held request, the output list and the receiver of a link. -/
theorem notices_keep (l : Link) (ps : List (NoticeKind × Nat)) : ∀ ls : LinkState,
    (ps.foldl (LinkState.notice l) ls).held = ls.held ∧ (ps.foldl (LinkState.notice l) ls).output = ls.output := by
  induction ps with
  | nil => exact fun _ => ⟨rfl, rfl⟩
  | cons p ps ih =>
    intro ls
    have one : (ls.notice l p).held = ls.held ∧ (ls.notice l p).output = ls.output := by
      unfold LinkState.notice LinkState.post LinkState.refresh
      repeat' split
      all_goals exact ⟨rfl, rfl⟩
    exact ⟨(ih _).1.trans one.1, (ih _).2.trans one.2⟩

theorem KeepsHeld.held {s t : State} (h : KeepsHeld s t) (l : Link) : (t.link l).held = (s.link l).held := by
  obtain ⟨ps, hps⟩ := h.links l
  rw [hps, (notices_keep l ps _).1]

theorem KeepsHeld.output {s t : State} (h : KeepsHeld s t) (l : Link) : (t.link l).output = (s.link l).output := by
  obtain ⟨ps, hps⟩ := h.links l
  rw [hps, (notices_keep l ps _).2]

theorem KeepsHeld.offAsked_iff {s t : State} (h : KeepsHeld s t) (i : Slot) : t.offAsked i ↔ s.offAsked i := by
  rw [State.offAsked_iff, h.offs, State.offAsked_iff]

/-- A response leaves nothing for a later event to answer. -/
theorem respond_serving (ls : LinkState) (f : List Byte) : ∀ x ∈ (ls.respond f).held, x.serving? = none := by
  unfold LinkState.respond
  split
  · rintro _ ⟨⟩
  · rintro _ ⟨⟩; rfl

/-- START, ADVANCE and FINISH come on the test link. -/
theorem requestLink_fetch (f : Fetch) : requestLink f.request = some .test := by cases f <;> rfl

theorem fetch_request_ne_powerOff (f : Fetch) (n : Nat) : f.request ≠ .powerOff n := by
  cases f <;> (intro h; cases h)

namespace HoldLaws

variable {s t u : State}

/-- The laws of held requests speak of these alone. -/
theorem of_same (h : HoldLaws s) (hh : ∀ l, (t.link l).held = (s.link l).held) (hf : t.fetch.fetch? = s.fetch.fetch?)
    (ho : ∀ i, t.offCount i = s.offCount i) : HoldLaws t := by
  have asked (i : Slot) : t.offAsked i ↔ s.offAsked i := by rw [State.offAsked_iff, ho, State.offAsked_iff]
  have ht : t.testLink.held = s.testLink.held := hh .test
  refine ⟨?_, ?_, fun i => (ho i).trans_le (h.offOnce i), ?_, ?_, ?_⟩
  · rw [hf, ht]; exact h.fetchHeld
  · intro i hi; rw [ht]; exact h.offHeld i ((asked i).1 hi)
  · rw [ht, hf]
    intro x hx c hc
    rcases h.served x hx c hc with hfetch | ⟨i, hi, hasked⟩
    · exact .inl hfetch
    · exact .inr ⟨i, hi, (asked i).2 hasked⟩
  · have := hh .handler; simp only [State.link] at this; rw [this]; exact h.handler
  · have := hh .line; simp only [State.link] at this; rw [this]; exact h.line

theorem of_keepsHeld (h : HoldLaws s) (k : KeepsHeld s t) : HoldLaws t := h.of_same k.held k.fetch k.offs

/-- Where the test link waits on nothing, no fetch is in flight and no power-off order is waited on. -/
theorem free (h : HoldLaws s) (ht : ∀ x ∈ s.testLink.held, x.serving? = none) :
    s.fetch.fetch? = none ∧ ∀ i, ¬ s.offAsked i := by
  constructor
  · rw [Option.eq_none_iff_forall_ne_some]
    intro f hf
    cases ht _ (h.fetchHeld f hf)
  · intro i hi
    cases ht _ (h.offHeld i hi)

/-- Nothing held waits on a later event, and nothing is under way. -/
theorem of_free (hf : t.fetch.fetch? = none) (ho : ∀ i, ¬ t.offAsked i)
    (hh : ∀ l, ∀ x ∈ (t.link l).held, x.serving? = none) : HoldLaws t where
  fetchHeld f h := by rw [hf] at h; cases h
  offHeld i h := absurd h (ho i)
  offOnce i := by have := (State.offAsked_iff t i).not.1 (ho i); unfold State.offCount at this; omega
  served x hx c hc := by rw [hh .test x hx] at hc; cases hc
  handler := hh .handler
  line := hh .line

/-- Only the test link holds what a later event answers. -/
theorem other (h : HoldLaws s) (l : Link) (hl : l ≠ .test) : ∀ x ∈ (s.link l).held, x.serving? = none := by
  cases l with
  | test => exact absurd rfl hl
  | handler => exact h.handler
  | line => exact h.line

/-- A link given a held request that no later event answers, where the test link waited on nothing. -/
theorem setLink (h : HoldLaws s) (l : Link) (ls : LinkState) (hx : ∀ x ∈ ls.held, x.serving? = none)
    (hw : ∀ x ∈ (s.link l).held, x.serving? = none) : HoldLaws (s.setLink l ls) := by
  cases l with
  | test =>
    obtain ⟨hf, ho⟩ := h.free hw
    exact of_free hf ho fun m => by
      cases m with
      | test => exact hx
      | handler => exact h.handler
      | line => exact h.line
  | handler => exact ⟨h.fetchHeld, h.offHeld, h.offOnce, h.served, hx, h.line⟩
  | line => exact ⟨h.fetchHeld, h.offHeld, h.offOnce, h.served, h.handler, hx⟩

/-- A link changed, its held request as it was. -/
theorem setLink_same (h : HoldLaws s) (l : Link) (ls : LinkState) (hl : ls.held = (s.link l).held) :
    HoldLaws (s.setLink l ls) := by
  refine h.of_same (fun m => ?_) (by simp) fun i => by simp [State.offCount, State.mailOf]
  by_cases e : m = l
  · subst e; rw [State.link_setLink_same]; exact hl
  · rw [State.link_setLink_ne s l m ls e]

theorem respond (h : HoldLaws s) (l : Link) (n : Nat) (k : RespCode) (p : List Byte)
    (hw : ∀ x ∈ (s.link l).held, x.serving? = none) : HoldLaws (s.respond l n k p) :=
  h.setLink l _ (respond_serving _ _) hw

theorem answerUntaken (h : HoldLaws s) (l : Link) (n : Nat) (k : RespCode) : HoldLaws (s.answerUntaken l n k) :=
  h.setLink_same l _ (by unfold LinkState.answerUntaken; split <;> rfl)

theorem clearOverride (h : HoldLaws s) : HoldLaws s.clearOverride := h.of_keepsHeld (KeepsHeld.refl s).clearOverride

theorem refuseTaken (h : HoldLaws s) (l : Link) (n : Nat) (k : RespCode) (hw : (s.link l).held = none) :
    HoldLaws (s.refuseTaken l n k) := by
  unfold State.refuseTaken
  split
  · exact h.clearOverride.respond l n k [] (by rw [(KeepsHeld.refl s).clearOverride.held, hw]; rintro _ ⟨⟩)
  · exact h.respond l n k [] (by rw [hw]; rintro _ ⟨⟩)

/-- The request that the test link held is answered, the work it waited on done. -/
theorem answered (h : HoldLaws s) (hf : u.fetch.fetch? = none) (ho : ∀ i, ¬ u.offAsked i)
    (hh : ∀ l, (u.link l).held = (s.link l).held) (n : Nat) (k : RespCode) (p : List Byte) :
    HoldLaws (u.respond .test n k p) := by
  refine of_free (by simpa using hf) (fun i hi => ho i ?_) fun l => ?_
  · rwa [State.offAsked, State.mailOf, State.respond_mail] at hi
  by_cases e : l = .test
  · subst e; unfold State.respond; rw [State.link_setLink_same]; exact respond_serving _ _
  · unfold State.respond; rw [State.link_setLink_ne u .test l _ e, hh]; exact h.other l e

theorem of_fetchAnswered (h : HoldLaws s) (ht : FetchAnswered s t) : HoldLaws t := by
  obtain ⟨f, r, u, n, k, p, hf, rfl, keep⟩ := ht
  have held : s.testLink.held = some (.serving f.request) := h.fetchHeld f (by rw [hf]; rfl)
  refine h.answered keep.fetch (fun i hi => ?_) (fun l => (keep.held l).trans (by cases l <;> rfl)) n k p
  have asked : s.offAsked i := (keep.offAsked_iff i).1 hi
  have := h.offHeld i asked
  rw [held] at this
  exact fetch_request_ne_powerOff f _ (Held.serving.inj (Option.some.inj this))

theorem powerOffOrder (h : HoldLaws s) (i : Slot) (ht : execPowerOffOrder i s = .next t) : HoldLaws t := by
  rcases execPowerOffOrder_cases s t i ht with keep | ⟨u, hq, keep, rfl⟩
  · exact h.of_keepsHeld keep
  · have asked : s.offAsked i := List.mem_of_head? hq
    have held := h.offHeld i asked
    refine h.answered ?_ (fun j hj => ?_) (fun l => (keep.held l).trans (by cases l <;> rfl)) _ _ _
    · rw [keep.fetch, Option.eq_none_iff_forall_ne_some]
      intro f hf
      have := h.fetchHeld f hf
      rw [held] at this
      exact fetch_request_ne_powerOff f _ (Held.serving.inj (Option.some.inj this)).symm
    · have hj' : (s.dropOrder i).offAsked j := (keep.offAsked_iff j).1 hj
      unfold State.offAsked State.dropOrder at hj'
      rw [State.mailOf_setMail] at hj'
      split at hj'
      · next e =>
        subst e
        change .powerOff true ∈ (s.mailOf j).orders.tail at hj'
        have once := h.offOnce j
        obtain ⟨os, hos⟩ : ∃ os, (s.mailOf j).orders = .powerOff true :: os := List.head?_eq_some_iff.1 hq
        rw [hos, List.count_cons_self] at once
        rw [hos, List.tail_cons, ← List.count_pos_iff] at hj'
        omega
      · next e =>
        have := h.offHeld j hj'
        rw [held] at this
        exact e (Fin.ext (Instr.powerOff.inj (Held.serving.inj (Option.some.inj this))).symm)

/-! ### The receiver -/

theorem takeFrame (h : HoldLaws s) (l : Link) (n : Nat) (p : List Byte) (hw : (s.link l).held = none) :
    HoldLaws (s.takeFrame l n p) := by
  unfold State.takeFrame
  repeat' split
  · exact h.refuseTaken l n _ hw
  · exact h.refuseTaken l n _ hw
  · exact h.refuseTaken l n _ hw
  · exact h.setLink l _ (by rintro _ ⟨⟩; rfl) (by rw [hw]; rintro _ ⟨⟩)

theorem completeFrame (h : HoldLaws s) (l : Link) (n : Nat) (p : List Byte) : HoldLaws (s.completeFrame l n p) := by
  unfold State.completeFrame
  dsimp only
  repeat' split
  · exact h.answerUntaken l _ _
  · exact h.answerUntaken l _ _
  · next hw => exact h.takeFrame l _ _ (by simpa using hw)

theorem receive (h : HoldLaws s) (l : Link) (x : Byte) : HoldLaws (s.receive l x) := by
  have hunt : HoldLaws (s.setReceiver l .hunt) := h.setLink_same l _ rfl
  have goOn (r : Receiver) : HoldLaws (s.goOn l r) := h.setLink_same l _ rfl
  unfold State.receive
  repeat' split
  · exact goOn .header
  · exact h
  · exact hunt.answerUntaken l 0 .badFrame
  · exact goOn _
  · exact hunt.completeFrame l _ _
  · exact goOn _

theorem receiveAll (l : Link) (xs : List Byte) : ∀ s, HoldLaws s → HoldLaws (xs.foldl (fun t x => t.receive l x) s) := by
  induction xs with
  | nil => exact fun _ h => h
  | cons x xs ih => exact fun s h => ih _ (h.receive l x)

/-- A frame sent: a response that waited then enters, and nothing else that is held changes. -/
theorem sent (h : HoldLaws s) (l : Link) (rest : List (List Byte)) :
    HoldLaws (s.setLink l ({ s.link l with output := rest } : LinkState).enter) := by
  unfold LinkState.enter
  split
  · next f hf =>
    have hw : ∀ x ∈ (s.link l).held, x.serving? = none := by
      change (s.link l).held = some (.answered f) at hf
      rw [hf]; rintro _ ⟨⟩; rfl
    split
    · exact h.setLink l _ (by rintro _ ⟨⟩) hw
    · exact h.setLink_same l _ rfl
  · exact h.setLink_same l _ rfl

end HoldLaws

end Sys2Proof.Machine
end

section
/-! Every step keeps the laws of the links and of held requests. -/

namespace Sys2Proof.Machine

/-! ### The notice requests (R10, R11, R12) -/

/-- A notice request changes its own link alone, and there neither the held request nor the output list. -/
structure NoticeServed (l : Link) (s : State) (x : State × Reply) : Prop where
  link : ∃ ls, x.1 = s.setLink l ls ∧ ls.held = (s.link l).held ∧ ls.output = (s.link l).output ∧
    (LinkLaws l (s.link l) → LinkLaws l ls)
  reply : ∃ k p, x.2 = .now k p ∧ (k.success = false → p = [] ∧ x.1 = s)

theorem State.setLink_link (s : State) (l : Link) : s.setLink l (s.link l) = s := by cases l <;> rfl

theorem NoticeServed.refuse (l : Link) (s : State) (k : RespCode) : NoticeServed l s (s, .refuse k) :=
  ⟨⟨s.link l, (s.setLink_link l).symm, rfl, rfl, id⟩, _, _, rfl, fun _ => ⟨rfl, rfl⟩⟩

theorem NoticeServed.done (l : Link) (s : State) (ls : LinkState) (p : List Byte) (hh : ls.held = (s.link l).held)
    (ho : ls.output = (s.link l).output) (hl : LinkLaws l (s.link l) → LinkLaws l ls) :
    NoticeServed l s (s.setLink l ls, .done p) :=
  ⟨⟨ls, rfl, hh, ho, hl⟩, _, _, rfl, nofun⟩

theorem serveTakeNotice_served (l : Link) (s : State) : NoticeServed l s (serveTakeNotice l s) := by
  unfold serveTakeNotice
  dsimp only
  split
  · have := NoticeServed.done l s (s.link l) [0#8, 255#8, 0#8, 0#8] rfl rfl id
    rwa [State.setLink_link] at this
  · exact .done l s _ _ rfl rfl fun h => h.fewer _ List.erase_sublist

theorem serveSetLevels_served (l : Link) (es : List (Nat × Nat)) (s : State) :
    NoticeServed l s (serveSetLevels l es s) := by
  unfold serveSetLevels
  split
  · next hes => exact .done l s _ _ rfl rfl fun h => h.withLevels es hes
  · exact .refuse l s _

theorem serveSetMask_served (l : Link) (m : Nat) (s : State) : NoticeServed l s (serveSetMask l m s) := by
  unfold serveSetMask
  split
  · next n hn =>
    obtain ⟨rfl, -, hle⟩ := natIn?_some hn
    exact .done l s _ _ rfl rfl fun h =>
      ⟨rfl, h.output, h.waits, h.noticeOnce, h.noticeRecorded, h.levels, hle, h.receiver, h.heldHere⟩
  · exact .refuse l s _

/-- The three notice requests, on their link. -/
theorem service_noticeServed (c : Instr) (l : Link) (s : State) (hn : isNoticeRequest c = true)
    (hl : requestLink c = some l) : NoticeServed l s (service c s) := by
  cases c with
  | takeNotice m => cases hl; exact serveTakeNotice_served l s
  | setLevels m es => cases hl; exact serveSetLevels_served l es s
  | setMask m n => cases hl; exact serveSetMask_served l n s
  | _ => cases hn

/-! ### A request served -/

/-- POWER ON, like every request of the test link, is served where no power-off order is waited on. -/
theorem HoldLaws.not_offAsked_of_powerOn {s : State} (h : HoldLaws s) {c : Instr} {l : Link} (hl : requestLink c = some l)
    (hheld : (s.link l).held = none ∨ (s.link l).held = some (.passed c)) (n : Nat) (hc : c = .powerOn n) (i : Slot) :
    ¬ s.offAsked i := by
  subst hc
  cases hl
  refine (h.free fun x hx => ?_).2 i
  change (s.link .test).held = some x at hx
  rcases hheld with e | e <;> rw [e] at hx <;> cases hx
  rfl

/-- A fetch sent off, or a power-off order given, leaves the links. -/
theorem Serves.later_links {c : Instr} {s r : State} {x : State × Reply} (h : Serves c s r x) (hx : x.2 = .later)
    (l : Link) : x.1.link l = s.link l := by
  rcases h.later hx with ⟨f, -, e⟩ | ⟨i, -, e⟩ <;> rw [e] <;> cases l <;> rfl

theorem LinksLawful.service {s : State} (h : LinksLawful s) {c : Instr} {l : Link} (hl : requestLink c = some l)
    (ho : ∀ n, c = .powerOn n → ∀ i, ¬ s.offAsked i) : LinksLawful (service c s).1 := by
  cases hn : isNoticeRequest c with
  | true =>
    obtain ⟨ls, e, -, -, hls⟩ := (service_noticeServed c l s hn hl).link
    rw [e]
    exact h.setLink l ls (hls (h l))
  | false =>
    have served := service_serves c s hn ho (by rw [hl]; rfl)
    by_cases hx : (Machine.service c s).2 = .later
    · exact h.of_links (served.later_links hx)
    · exact h.of_keepsHeld (served.kept hx)

theorem LinksLawful.request {s : State} (h : LinksLawful s) (hh : HoldLaws s) {c : Instr} {l : Link}
    (hl : requestLink c = some l) : LinksLawful (s.request l c (Machine.service c)) := by
  rcases s.request_ways l c (Machine.service c) with ⟨hheld, e⟩ | ⟨-, e⟩ | e <;> rw [e]
  · exact (h.service hl (hh.not_offAsked_of_powerOn hl hheld)).settle l c _ hl
  · exact h.refuseTaken l _ _
  · exact h.answerUntaken l _ _

/-- A request answered, or kept as it was. -/
theorem HoldLaws.settle_free {s : State} (h : HoldLaws s) (l : Link) (c : Instr) (r : Reply) (hr : r ≠ .later)
    (hw : ∀ x ∈ (s.link l).held, x.serving? = none) : HoldLaws (s.settle l c r) := by
  cases r with
  | now k p => exact h.respond l _ k p hw
  | later => exact absurd rfl hr
  | notYet => exact h.setLink l _ (by rintro _ ⟨⟩; rfl) hw

/-- START, ADVANCE or FINISH with its fetch on the way; POWER OFF with its order on the way. -/
theorem HoldLaws.settle_later {s r : State} (h : HoldLaws s) {l : Link} {c : Instr} {x : State × Reply}
    (hl : requestLink c = some l) (hs : Serves c s r x) (hx : x.2 = .later)
    (hw : ∀ y ∈ (s.link l).held, y.serving? = none) : HoldLaws (x.1.settle l c x.2) := by
  rw [hx]
  rcases hs.later hx with ⟨f, rfl, e⟩ | ⟨i, rfl, e⟩ <;> rw [e]
  · rw [requestLink_fetch] at hl
    cases hl
    obtain ⟨-, ho⟩ := h.free hw
    refine ⟨?_, fun i hi => absurd hi (ho i), h.offOnce, ?_, h.handler, h.line⟩
    · rintro _ ⟨⟩; rfl
    · rintro _ ⟨⟩ c ⟨⟩; exact .inl ⟨f, rfl, rfl⟩
  · cases hl
    obtain ⟨hf, ho⟩ := h.free hw
    have mail (j : Slot) : ((s.giveOrder i (.powerOff true)).mailOf j).orders =
        if j = i then (s.mailOf i).orders ++ [.powerOff true] else (s.mailOf j).orders := by
      rw [State.giveOrder, State.mailOf_setMail]; split <;> rfl
    have asked (j : Slot) : (s.giveOrder i (.powerOff true)).offAsked j ↔ j = i := by
      rw [State.offAsked, mail]
      split
      · next e => simp [e]
      · next e => exact iff_of_false (ho j) e
    refine ⟨?_, ?_, ?_, ?_, h.handler, h.line⟩
    · intro f hf'
      change f ∈ s.fetch.fetch? at hf'
      rw [hf] at hf'; cases hf'
    · intro j hj
      rw [(asked j).1 hj]; rfl
    · intro j
      change ((s.giveOrder i (.powerOff true)).mailOf j).orders.count (.powerOff true) ≤ 1
      rw [mail]
      split
      · rw [List.count_append, List.count_eq_zero.2 (ho i)]; rfl
      · exact h.offOnce j
    · rintro _ ⟨⟩ c ⟨⟩
      exact .inr ⟨i, rfl, (asked i).2 rfl⟩

theorem HoldLaws.request {s : State} (h : HoldLaws s) {c : Instr} {l : Link} (hl : requestLink c = some l) :
    HoldLaws (s.request l c (Machine.service c)) := by
  rcases s.request_ways l c (Machine.service c) with ⟨hheld, e⟩ | ⟨hheld, e⟩ | e <;> rw [e]
  · have hw : ∀ x ∈ (s.link l).held, x.serving? = none := by
      rcases hheld with hheld | hheld <;> rw [hheld]
      · rintro _ ⟨⟩
      · rintro _ ⟨⟩; rfl
    cases hn : isNoticeRequest c with
    | true =>
      obtain ⟨⟨ls, es, hheld', -, -⟩, k, p, er, -⟩ := service_noticeServed c l s hn hl
      rw [es, er]
      exact (h.setLink_same l ls hheld').settle_free l c _ (fun h => by cases h) (by rw [State.link_setLink_same, hheld']; exact hw)
    | false =>
      have served := service_serves c s hn (h.not_offAsked_of_powerOn hl hheld) (by rw [hl]; rfl)
      by_cases hx : (Machine.service c s).2 = .later
      · exact h.settle_later hl served hx hw
      · have kept := served.kept hx
        exact (h.of_keepsHeld kept).settle_free l c _ hx (by rw [kept.held]; exact hw)
  · exact h.refuseTaken l _ _ hheld
  · exact h.answerUntaken l _ _

/-! ### Every command -/

theorem LinksLawful.of_fetchAnswered {s t : State} (h : LinksLawful s) (ht : FetchAnswered s t) : LinksLawful t := by
  obtain ⟨f, r, u, n, k, p, -, rfl, keep⟩ := ht
  have ended : LinksLawful s.endFetch := h.of_links fun l => by cases l <;> rfl
  exact (ended.of_keepsHeld keep).respond .test n k p

/-- A frame sent, and what it changes (R4, R13). -/
theorem execResponseSent_cases (l : Link) (s t : State) (h : execResponseSent l s = .next t) :
    t = s ∨ ∃ f rest q, (s.link l).output = f :: rest ∧
      t = { s.setLink l ({ s.link l with output := rest } : LinkState).enter with resetDue := q } := by
  unfold execResponseSent at h
  split at h
  · cases h; exact .inl rfl
  · next f rest hf =>
    dsimp only at h
    split at h
    · cases h; exact .inr ⟨f, rest, true, hf, rfl⟩
    · cases h; exact .inr ⟨f, rest, _, hf, rfl⟩

/-- A frame timeout, and what it changes (R1). -/
theorem execFrameTimeout_cases (l : Link) (s t : State) (h : execFrameTimeout l s = .next t) :
    t = s ∨ ∃ n, t = (s.setReceiver l .hunt).answerUntaken l n .badFrame := by
  unfold execFrameTimeout at h
  repeat' split at h
  · cases h; exact .inr ⟨_, rfl⟩
  · cases h; exact .inl rfl
  · cases h; exact .inl rfl

/-- The laws of the links hold after the reset effect. -/
theorem linksLawful_afterReset (cells : Vector RecipeBlock 32) (m : StoreMode) (n : Nat) (q : List Instr) :
    LinksLawful (State.afterReset cells m n q) := by
  have reset (l : Link) : LinkLaws l (.reset l) := by
    refine ⟨rfl, by simp [LinkState.reset], by rintro _ ⟨⟩, List.nodup_nil, by rintro _ ⟨⟩, ?_, Nat.zero_le _, rfl,
      by rintro _ ⟨⟩⟩
    cases l <;> decide
  intro l
  cases l
  · exact reset .test
  · exact reset .handler
  · exact reset .line

@[simp] theorem mailOf_afterReset (cells : Vector RecipeBlock 32) (m : StoreMode) (n : Nat) (q : List Instr) (i : Slot) :
    (State.afterReset cells m n q).mailOf i = .empty := tget_replicate _ i

theorem holdLaws_afterReset (cells : Vector RecipeBlock 32) (m : StoreMode) (n : Nat) (q : List Instr) :
    HoldLaws (State.afterReset cells m n q) :=
  .of_free rfl (fun i => by rw [State.offAsked, mailOf_afterReset]; exact List.not_mem_nil) fun l => by cases l <;> rintro _ ⟨⟩

/-- Every command keeps the laws of the links, where those of held requests hold. -/
theorem LinksLawful.exec {s t : State} (h : LinksLawful s) (hh : HoldLaws s) (c : Instr) (ht : exec c s = .next t) :
    LinksLawful t := by
  cases hr : requestLink c with
  | some l =>
    rw [exec_request c l s hr] at ht
    cases ht
    exact h.request hh hr
  | none =>
    cases ha : answersHeld c with
    | false => exact h.of_keepsHeld (exec_event_keeps c s hr ha t ht)
    | true =>
      cases c with
      | requestFrame l bytes => cases ht; exact LinksLawful.receiveAll l bytes s h
      | lengthFault l x => cases ht; exact h.receive l x
      | receivedByte l x => cases ht; exact h.receive l x
      | frameTimeout l =>
        rcases execFrameTimeout_cases l s t ht with rfl | ⟨n, rfl⟩
        · exact h
        · exact (h.hunt l).answerUntaken l n _
      | responseSent l =>
        rcases execResponseSent_cases l s t ht with rfl | ⟨f, rest, q, hf, rfl⟩
        · exact h
        · exact (h.setLink l _ ((h l).sent f rest hf)).of_keepsHeld (KeepsHeld.blocks ..)
      | resetEffect => cases ht; exact linksLawful_afterReset _ _ _ _
      | powerOffOrder i =>
        rcases execPowerOffOrder_cases s t i ht with keep | ⟨u, -, keep, rfl⟩
        · exact h.of_keepsHeld keep
        · have dropped : LinksLawful (s.dropOrder i) := h.of_links fun l => by cases l <;> rfl
          exact (dropped.of_keepsHeld keep).respond .test _ _ _
      | startFetchAnswer =>
        rcases execStartFetchAnswer_cases s t ht with rfl | answered
        · exact h
        · exact h.of_fetchAnswered answered
      | stageFetchAnswer =>
        rcases execStageFetchAnswer_cases s t ht with rfl | answered
        · exact h
        · exact h.of_fetchAnswered answered
      | limitsFetchAnswer =>
        rcases execLimitsFetchAnswer_cases s t ht with rfl | answered
        · exact h
        · exact h.of_fetchAnswered answered
      | _ => cases ha

/-- Every command keeps the laws of held requests. -/
theorem HoldLaws.exec {s t : State} (h : HoldLaws s) (c : Instr) (ht : exec c s = .next t) : HoldLaws t := by
  cases hr : requestLink c with
  | some l =>
    rw [exec_request c l s hr] at ht
    cases ht
    exact h.request hr
  | none =>
    cases ha : answersHeld c with
    | false => exact h.of_keepsHeld (exec_event_keeps c s hr ha t ht)
    | true =>
      cases c with
      | requestFrame l bytes => cases ht; exact HoldLaws.receiveAll l bytes s h
      | lengthFault l x => cases ht; exact h.receive l x
      | receivedByte l x => cases ht; exact h.receive l x
      | frameTimeout l =>
        rcases execFrameTimeout_cases l s t ht with rfl | ⟨n, rfl⟩
        · exact h
        · exact (h.setLink_same l _ rfl : HoldLaws (s.setReceiver l .hunt)).answerUntaken l n _
      | responseSent l =>
        rcases execResponseSent_cases l s t ht with rfl | ⟨f, rest, q, -, rfl⟩
        · exact h
        · exact (h.sent l rest).of_keepsHeld (KeepsHeld.blocks ..)
      | resetEffect => cases ht; exact holdLaws_afterReset _ _ _ _
      | powerOffOrder i => exact h.powerOffOrder i ht
      | startFetchAnswer =>
        rcases execStartFetchAnswer_cases s t ht with rfl | answered
        · exact h
        · exact h.of_fetchAnswered answered
      | stageFetchAnswer =>
        rcases execStageFetchAnswer_cases s t ht with rfl | answered
        · exact h
        · exact h.of_fetchAnswered answered
      | limitsFetchAnswer =>
        rcases execLimitsFetchAnswer_cases s t ht with rfl | answered
        · exact h
        · exact h.of_fetchAnswered answered
      | _ => cases ha

/-- A step from a state is a command in that state less the command, or no change. -/
theorem step_cases (s t : State) (h : step s = .next t) :
    t = s ∨ ∃ c rest, s.pending = c :: rest ∧ exec c { s with pending := rest } = .next t := by
  unfold step at h
  split at h
  · cases h; exact .inl rfl
  · next c rest hp => exact .inr ⟨c, rest, hp, h⟩

/-- The waiting commands are no matter of the links or of held requests. -/
theorem KeepsHeld.setPending (s : State) (q : List Instr) : KeepsHeld s { s with pending := q } :=
  (KeepsHeld.refl s).of_mail rfl rfl rfl rfl rfl

/-- Settles O15: every command keeps the laws of the links, request by request and event by event. -/
theorem linkLawsAreKept : Obligations.LinkLawsAreKept := by
  intro s t h ht
  rw [← linksLawful_iff]
  rcases step_cases s t ht with rfl | ⟨c, rest, -, hc⟩
  · exact h.links
  · have keep := KeepsHeld.setPending s rest
    exact (h.links.of_keepsHeld keep).exec (h.holds.of_keepsHeld keep) c hc

/-- Settles O16: a held request that waits and the work that answers it begin in one step and end in one step. -/
theorem heldRequestsMatchTheirWork : Obligations.HeldRequestsMatchTheirWork := by
  intro s t h ht
  rcases step_cases s t ht with rfl | ⟨c, rest, -, hc⟩
  · exact h.holds
  · exact (h.holds.of_keepsHeld (KeepsHeld.setPending s rest)).exec c hc

end Sys2Proof.Machine
end

section
/-! The link interfaces: what a request's link does with its answer, the output list, and the receiver (R1 to R5, R13). -/

namespace Sys2Proof.Machine

/-! ### Answers -/

/-- An answer to a frame that was not taken, lost when the output list is full (R4). -/
theorem State.answerUntaken_eq (s : State) (l : Link) (n : Nat) (k : RespCode) :
    s.answerUntaken l n k = s.setLink l { s.link l with
      output := if (s.link l).output.length < 4 then (s.link l).output ++ [responseFrame n k []]
        else (s.link l).output } := by
  unfold State.answerUntaken LinkState.answerUntaken LinkState.hasRoom
  by_cases h : (s.link l).output.length < 4 <;> simp [h]

/-- The response to a taken request enters the output list, or waits with the request held (R3, R4). -/
theorem State.respond_eq (s : State) (l : Link) (n : Nat) (k : RespCode) (p : List Byte) :
    s.respond l n k p = s.setLink l (
      if (s.link l).output.length < 4 then
        { s.link l with output := (s.link l).output ++ [responseFrame n k p], held := none }
      else { s.link l with held := some (.answered (responseFrame n k p)) }) := by
  split
  · next h => exact s.respond_room l n k p h
  · next h => exact s.respond_full l n k p (not_lt.1 h)

@[simp] theorem State.setLink_setLink (s : State) (l : Link) (x y : LinkState) :
    (s.setLink l x).setLink l y = s.setLink l y := by cases l <;> rfl

@[simp] theorem State.link_clearOverride (s : State) (l : Link) : s.clearOverride.link l = s.link l := by cases l <;> rfl

/-- Settles O10: a request that its block serves is answered at once or stays held, and its refusals leave everything but the
lock override flag. -/
theorem refusedRequestsChangeNothing : Obligations.RefusedRequestsChangeNothing := by
  intro c l s hl hr hoff
  have room {t : State} (ho : (t.link l).output = (s.link l).output) : (t.link l).output.length < Config.outputDepth :=
    ho ▸ hr.2
  rw [exec_ready c l s hl hr]
  cases hn : isNoticeRequest c with
  | true =>
    obtain ⟨⟨ls, es, hheld, hout, -⟩, k, p, er, hrefused⟩ := service_noticeServed c l s hn hl
    have ho : ((service c s).1.link l).output = (s.link l).output := by rw [es, State.link_setLink_same, hout]
    refine .inl ⟨k, p, (service c s).1, by rw [er, State.settle_now _ l c k p (room ho)], ?_, ho, fun hk => ?_⟩
    · rw [es, State.link_setLink_same, hheld]
    · have plain : storeCode (requestCode c) = false := by cases c <;> first | rfl | cases hn
      simpa [plain] using hrefused hk
  | false =>
    have served := service_serves c s hn (fun n _ i hi => hoff ⟨i, hi⟩) (by rw [hl]; rfl)
    cases hx : (service c s).2 with
    | now k p =>
      have kept := served.kept (by rw [hx]; nofun)
      exact .inl ⟨k, p, _, by rw [State.settle_now _ l c k p (room (kept.output l))], kept.held l, kept.output l,
        served.refused k p hx⟩
    | later =>
      refine .inr ⟨_, rfl, .inl ?_, ?_⟩ <;> rw [State.settle_later, State.link_setLink_same]
      rw [served.later_links hx]
    | notYet =>
      refine .inr ⟨_, rfl, .inr ?_, ?_⟩ <;> rw [State.settle_notYet, State.link_setLink_same]
      exact (served.kept (by rw [hx]; nofun)).output l

/-! ### Notices (R8 to R12) -/

/-- Settles O14: a posted notice joins each link that records its kind, and nothing else changes. -/
theorem postedNoticesJoinTheirLinks : Obligations.PostedNoticesJoinTheirLinks := by
  refine ⟨fun k => ⟨by cases k <;> rfl, fun l => by cases k <;> cases l <;> decide⟩, fun k n s => ⟨rfl, fun l => ?_⟩⟩
  rw [State.link_post]
  unfold LinkState.post
  cases hrec : k.recordedOn l with
  | false => rw [if_neg Bool.false_ne_true, if_pos (.inl rfl)]
  | true =>
    by_cases hjoin : (s.link l).level k = 0 ∨ (k, n) ∈ (s.link l).notices
    · rw [if_pos rfl, if_pos hjoin, if_pos (.inr hjoin)]
    · rw [if_pos rfl, if_neg hjoin, if_neg (by simpa using hjoin)]
      rfl

/-- Settles O13: SET MASK sets its link's mask level and re-evaluates the attention line. -/
theorem setMaskSetsTheMask : Obligations.SetMaskSetsTheMask := by
  intro l m s hr
  split
  · next hm =>
    exact exec_ready_now _ l s _ .done [] rfl hr (by change serveSetMask l m s = _; simp only [serveSetMask, natIn?_in ⟨Nat.zero_le m, hm⟩]; rfl)
      (by rw [State.link_setLink_same])
  · next hm =>
    exact exec_ready_refused _ l s .range rfl hr
      (by change serveSetMask l m s = _; simp only [serveSetMask, natIn?_out (.inr (not_le.1 hm))])

/-- Settles O12: SET LEVELS writes every named level once its whole list has passed. -/
theorem setLevelsSetsEveryNamedLevel : Obligations.SetLevelsSetsEveryNamedLevel := by
  intro l es s hr
  dsimp only
  rw [← levelsOk_iff]
  constructor
  · intro hbad
    exact exec_ready_refused _ l s .range rfl hr
      (by change serveSetLevels l es s = _; simp only [serveSetLevels, hbad]; rfl)
  · intro hok
    obtain ⟨-, -, hnodup, -⟩ := (levelsOk_iff l es).1 hok
    refine ⟨(s.link l).withLevels es, ?_, ?_, ?_, rfl⟩
    · exact exec_ready_now _ l s _ .done [] rfl hr
        (by change serveSetLevels l es s = _; simp only [serveSetLevels, hok, if_true]; rfl)
        (by rw [State.link_setLink_same]; rfl)
    · rintro ⟨code, n⟩ he k rfl
      exact tget_writeLevels_named es k n hnodup he _
    · intro k hk
      exact tget_writeLevels_absent es k hk _

/-! ### TAKE NOTICE (R10) -/

/-- Pair q is not taken before pair p: p has the higher level, or with equal levels the lower kind code, or with equal kinds no
higher index. -/
def LinkState.notAfter (ls : LinkState) (p q : NoticeKind × Nat) : Prop :=
  ls.level q.1 < ls.level p.1 ∨ (ls.level q.1 = ls.level p.1 ∧
    (p.1.code < q.1.code ∨ (p.1.code = q.1.code ∧ p.2 ≤ q.2)))

theorem LinkState.notAfter_refl (ls : LinkState) (p : NoticeKind × Nat) : ls.notAfter p p := by
  unfold notAfter; omega

theorem LinkState.notAfter_trans (ls : LinkState) {p q r : NoticeKind × Nat} (h : ls.notAfter p q)
    (k : ls.notAfter q r) : ls.notAfter p r := by
  unfold notAfter at *; omega

theorem LinkState.notAfter_of_before (ls : LinkState) {p q : NoticeKind × Nat} (h : ls.before p q = true) :
    ls.notAfter p q := by
  simp only [before, Bool.or_eq_true, Bool.and_eq_true, decide_eq_true_eq] at h
  unfold notAfter; omega

theorem LinkState.notAfter_of_not_before (ls : LinkState) {p q : NoticeKind × Nat} (h : ¬ ls.before q p = true) :
    ls.notAfter p q := by
  simp only [before, Bool.or_eq_true, Bool.and_eq_true, decide_eq_true_eq] at h
  unfold notAfter; omega

/-- The first of some pairs is one of them, and none is taken before it. -/
theorem LinkState.firstOf_spec (ls : LinkState) (qs : List (NoticeKind × Nat)) : ∀ p,
    ls.firstOf p qs ∈ p :: qs ∧ ∀ q ∈ p :: qs, ls.notAfter (ls.firstOf p qs) q := by
  induction qs with
  | nil => intro p; simp [firstOf, ls.notAfter_refl]
  | cons q qs ih =>
    intro p
    unfold firstOf
    split
    · next hb =>
      obtain ⟨hmem, hfirst⟩ := ih q
      refine ⟨List.mem_cons_of_mem _ hmem, ?_⟩
      rintro x (_ | ⟨_, hx⟩)
      · exact ls.notAfter_trans (hfirst q List.mem_cons_self) (ls.notAfter_of_before hb)
      · exact hfirst x hx
    · next hb =>
      obtain ⟨hmem, hfirst⟩ := ih p
      refine ⟨?_, ?_⟩
      · rcases List.mem_cons.1 hmem with e | hx
        · rw [e]; exact List.mem_cons_self
        · exact List.mem_cons_of_mem _ (List.mem_cons_of_mem _ hx)
      · rintro x (_ | ⟨_, _ | ⟨_, hx⟩⟩)
        · exact hfirst p List.mem_cons_self
        · exact ls.notAfter_trans (hfirst p List.mem_cons_self) (ls.notAfter_of_not_before hb)
        · exact hfirst x (List.mem_cons_of_mem _ hx)

/-- Settles O11: TAKE NOTICE takes the first pair in the order of R10 out of its link's set. -/
theorem takeNoticeReturnsTheHighestPair : Obligations.TakeNoticeReturnsTheHighestPair := by
  intro l s hr
  refine ⟨fun hempty => ?_, fun hsome => ?_⟩
  · refine exec_ready_now _ l s s .done _ rfl hr ?_ rfl
    change serveTakeNotice l s = _
    simp only [serveTakeNotice, LinkState.choice, hempty]; rfl
  · obtain ⟨p, qs, hset⟩ := List.exists_cons_of_ne_nil hsome
    obtain ⟨hmem, hfirst⟩ := (s.link l).firstOf_spec qs p
    rw [← hset] at hmem hfirst
    refine ⟨(s.link l).firstOf p qs, hmem, hfirst, ?_⟩
    have choice : (s.link l).choice = some ((s.link l).firstOf p qs) := by simp only [LinkState.choice, hset]
    refine exec_ready_now _ l s _ .done _ rfl hr ?_ (by rw [State.link_setLink_same])
    change serveTakeNotice l s = _
    simp only [serveTakeNotice, choice, List.length_erase_of_mem hmem]
    rfl

/-! ### The output list (R3, R4, R13) -/

/-- RACK RESET is answered at once. -/
theorem exec_rackReset_ready (s : State) (h : s.Ready .line .rackReset) :
    exec .rackReset s = .next (s.answered .line .rackReset .done []) :=
  exec_ready_now _ .line s s .done [] rfl h rfl rfl

/-- The first frame sent, and the response that waited entered. -/
theorem exec_responseSent_cons (l : Link) (s : State) (f : List Byte) (rest : List (List Byte))
    (hf : (s.link l).output = f :: rest) (hroom : rest.length < 4) : exec (.responseSent l) s = .next
      ({ s with resetDue := s.resetDue || (decide (l = Link.line) && decide (f = responseFrame 0x5F .done [])) }.setLink l
        (match (s.link l).held with
          | some (.answered g) => { s.link l with output := rest ++ [g], held := none }
          | _ => { s.link l with output := rest })) := by
  have entered : ({ s.link l with output := rest } : LinkState).enter = match (s.link l).held with
      | some (.answered g) => { s.link l with output := rest ++ [g], held := none }
      | _ => { s.link l with output := rest } := by
    unfold LinkState.enter
    cases (s.link l).held with
    | none => rfl
    | some x =>
      cases x with
      | passed _ | serving _ => rfl
      | answered g => exact if_pos (decide_eq_true hroom)
  change execResponseSent l s = _
  unfold execResponseSent
  simp only [hf, entered]
  by_cases hreset : l = .line ∧ f = resetFrame
  · obtain ⟨rfl, rfl⟩ := hreset
    simp [resetFrame, State.setLink]
  · have : (decide (l = Link.line) && decide (f = responseFrame 0x5F .done [])) = false := by
      simpa [resetFrame] using hreset
    rw [if_neg hreset, this, Bool.or_false]

/-- Settles O8: the output list, and the bytes of a response. -/
theorem responsesPassThroughTheOutputList : Obligations.ResponsesPassThroughTheOutputList := by
  refine ⟨fun l s => ⟨fun f rest hf hroom => exec_responseSent_cons l s f rest hf hroom, fun hempty => ?_⟩,
    fun l n k p s => s.respond_eq l n k p, exec_rackReset_ready, fun n k p => ?_⟩
  · change execResponseSent l s = _
    simp only [execResponseSent, hempty]
  · have low (m : Nat) : BitVec.ofNat 8 (m % 256) = BitVec.ofNat 8 m := BitVec.eq_of_toNat_eq (by simp)
    simp only [low]
    cases k <;> rfl

/-! ### The receiver (R1) -/

/-- Settles O5: the receiver, byte by byte, and the frame timeout. -/
theorem receiverFollowsItsStates : Obligations.ReceiverFollowsItsStates := by
  intro l x s
  dsimp only
  have abandon (n : Nat) : (s.setReceiver l .hunt).answerUntaken l n .badFrame = s.setLink l { s.link l with
      receiver := .hunt
      output := if (s.link l).output.length < 4 then (s.link l).output ++ [responseFrame n .badFrame []]
        else (s.link l).output } := by
    rw [State.answerUntaken_eq]; simp [State.setReceiver]
  have byte : exec (.receivedByte l x) s = .next (s.receive l x) := rfl
  have fault : exec (.lengthFault l x) s = .next (s.receive l x) := rfl
  have timeout (n : Nat) (hn : (s.link l).receiver.partialCode? = some n) (hd : (s.link l).lastByteAt + 20 ≤ s.rck.osc) :
      exec (.frameTimeout l) s = .next ((s.setReceiver l .hunt).answerUntaken l n .badFrame) := by
    change execFrameTimeout l s = _
    simp only [execFrameTimeout, hn, State.reached, Config.frameTimeout, hd, decide_true, if_true]
  refine ⟨fun h => ?_, fun h hx => ?_, fun h hx => ?_, fun n bs h hb => ?_, fun h hd => ?_, fun n b bs h hd => ?_,
    fun n h hd => ?_, fun h => ?_⟩
  · rw [byte]
    simp only [State.receive, h, Config.requestMarker]
    split <;> rfl
  · rw [byte]
    simp only [State.receive, h, Config.maxPayload, not_lt.2 hx, if_false]
    rfl
  · have : s.receive l x = (s.setReceiver l .hunt).answerUntaken l 0 .badFrame := by
      simp only [State.receive, h, Config.maxPayload, hx, if_true]
    rw [byte, fault, this, abandon]
    exact ⟨rfl, rfl⟩
  · have : ¬ bs.length + 1 = n + 3 := by omega
    rw [byte]
    simp only [State.receive, h, this, if_false]
    rfl
  · rw [timeout 0 (by rw [h]; rfl) hd, abandon]
  · rw [timeout b.toNat (by rw [h]; rfl) hd, abandon]
  · rw [timeout 0 (by rw [h]; rfl) hd, abandon]
  · change execFrameTimeout l s = _
    unfold execFrameTimeout
    rcases h with h | h
    · rw [h]; rfl
    · have : ¬ s.reached ((s.link l).lastByteAt + 20) = true := by simp [State.reached]; omega
      split
      · rw [if_neg this]
      · rfl

end Sys2Proof.Machine
end

section
/-! Frames: a complete frame and its checks (R2), and the bytes of a request's arguments (R6). -/

namespace Sys2Proof.Machine

/-! ### A complete frame (R2) -/

theorem State.goOn_goOn (s : State) (l : Link) (r q : Receiver) : (s.goOn l r).goOn l q = s.goOn l q := by
  cases l <;> rfl

theorem State.link_goOn (s : State) (l : Link) (r : Receiver) :
    (s.goOn l r).link l = { s.link l with receiver := r, lastByteAt := s.rck.osc } := by
  rw [State.goOn, State.link_setLink_same]

theorem State.setReceiver_goOn (s : State) (l : Link) (r q : Receiver) : (s.goOn l r).setReceiver l q = s.goOn l q := by
  cases l <;> rfl

/-- A byte in BODY completes the frame or joins its bytes. -/
theorem State.goOn_body_receive (s : State) (l : Link) (n : Nat) (bs : List Byte) (x : Byte) :
    (s.goOn l (.body n bs)).receive l x = if bs.length + 1 = n + 3 then (s.goOn l .hunt).completeFrame l n (bs ++ [x])
      else s.goOn l (.body n (bs ++ [x])) := by
  unfold State.receive
  rw [State.link_goOn]
  simp only [State.setReceiver_goOn, State.goOn_goOn]

/-- The bytes that complete a frame in BODY. -/
theorem State.receive_body (s : State) (l : Link) (n : Nat) (rest : List Byte) : ∀ bs : List Byte, rest ≠ [] →
    bs.length + rest.length = n + 3 →
    rest.foldl (fun t x => t.receive l x) (s.goOn l (.body n bs)) = (s.goOn l .hunt).completeFrame l n (bs ++ rest) := by
  induction rest with
  | nil => exact fun _ h => absurd rfl h
  | cons x rest ih =>
    intro bs _ hlen
    rw [List.length_cons] at hlen
    rw [List.foldl_cons, State.goOn_body_receive]
    cases rest with
    | nil => exact if_pos hlen
    | cons y rest =>
      have : ¬ bs.length + 1 = n + 3 := by rw [List.length_cons] at hlen; omega
      rw [if_neg this, ih (bs ++ [x]) (by simp) (by rw [List.length_append, List.length_singleton]; omega),
        List.append_assoc]
      rfl

/-- A whole frame, taken from HUNT. -/
theorem State.receive_frame_bytes (s : State) (l : Link) (n : Nat) (bs : List Byte) (hs : (s.link l).receiver = .hunt)
    (hn : n ≤ 250) (hbs : bs.length = n + 3) :
    (0xC3#8 :: BitVec.ofNat 8 n :: bs).foldl (fun t x => t.receive l x) s = (s.goOn l .hunt).completeFrame l n bs := by
  have marker : s.receive l 0xC3#8 = s.goOn l .header := by unfold State.receive; rw [hs]; rfl
  have toNat : (BitVec.ofNat 8 n).toNat = n := by rw [BitVec.toNat_ofNat]; omega
  have length : (s.goOn l .header).receive l (BitVec.ofNat 8 n) = s.goOn l (.body n []) := by
    unfold State.receive
    rw [State.link_goOn, toNat]
    exact (if_neg (not_lt.2 hn)).trans (State.goOn_goOn ..)
  rw [List.foldl_cons, List.foldl_cons, marker, length]
  exact s.receive_body l n bs [] (by rintro rfl; simp at hbs) (by simpa using hbs)

/-- Settles O6: a complete frame, and the codes of Table 1-4. -/
theorem completeFramesAreChecked : Obligations.CompleteFramesAreChecked := by
  refine ⟨fun code => ⟨fun l => (permitted_iff code l).trans (by cases l <;> rfl), (knownCode_iff code).trans ?_⟩, ?_⟩
  · exact exists_congr fun l => by cases l <;> rfl
  intro l n bs s hs hn hbs
  dsimp only
  have whole : (s.goOn l .hunt).link l = { s.link l with lastByteAt := s.rck.osc } := by
    rw [State.link_goOn, ← hs]
  have code : receivedCode bs = (bs.headD 0#8).toNat := by cases bs <;> rfl
  have untaken (k : RespCode) : (s.goOn l .hunt).answerUntaken l (bs.headD 0#8).toNat k = s.setLink l
      { s.link l with
        lastByteAt := s.rck.osc
        output := if (s.link l).output.length < 4 then
          (s.link l).output ++ [responseFrame (bs.headD 0#8).toNat k []] else (s.link l).output } := by
    rw [State.answerUntaken_eq, whole]
    exact State.setLink_setLink ..
  have refused (hfree : (s.link l).held = none) (k : RespCode) : (s.goOn l .hunt).refuseTaken l (bs.headD 0#8).toNat k =
      (if 0x30 ≤ (bs.headD 0#8).toNat ∧ (bs.headD 0#8).toNat ≤ 0x40 then s.clearOverride else s).setLink l
        (if (s.link l).output.length < 4 then
          { s.link l with
            lastByteAt := s.rck.osc
            output := (s.link l).output ++ [responseFrame (bs.headD 0#8).toNat k []] }
        else { s.link l with
          lastByteAt := s.rck.osc
          held := some (.answered (responseFrame (bs.headD 0#8).toNat k [])) }) := by
    have goOn_clear : (s.goOn l .hunt).clearOverride = s.clearOverride.goOn l .hunt := by cases l <;> rfl
    unfold State.refuseTaken
    rw [State.respond_eq]
    simp only [storeCode, decide_eq_true_eq]
    by_cases hstore : 0x30 ≤ (bs.headD 0#8).toNat ∧ (bs.headD 0#8).toNat ≤ 0x40
    · rw [if_pos hstore, if_pos hstore, State.link_clearOverride, whole, goOn_clear, State.goOn, State.setLink_setLink, hfree]
    · rw [if_neg hstore, if_neg hstore, whole, State.goOn, State.setLink_setLink, hfree]
  change Host.Outcome.next ((0xC3#8 :: BitVec.ofNat 8 n :: bs).foldl (fun t x => t.receive l x) s) = _
  rw [s.receive_frame_bytes l n bs hs hn hbs]
  congr 1
  have sound : frameSound n bs = false ↔ (crc16 (BitVec.ofNat 8 n :: bs.take (n + 1))).toNat ≠ beNat (bs.drop (n + 1)) := by
    simp [frameSound, byteOf]
  have held (c : Instr) : (s.goOn l .hunt).hold l (some (.passed c)) = s.setLink l
      { s.link l with lastByteAt := s.rck.osc, held := some (.passed c) } := by
    rw [State.hold, whole]
    exact State.setLink_setLink ..
  unfold State.completeFrame State.takeFrame
  simp only [code, untaken, held, sound, whole]
  cases hfree : (s.link l).held with
  | some h => rfl
  | none =>
    simp only [refused hfree]
    rw [hfree]
    rfl

/-! ### Bytes (R6) -/

theorem toNat_byteOf {n : Nat} (h : fits8 n = true) : (byteOf n).toNat = n := by
  simp only [fits8, decide_eq_true_eq] at h
  rw [byteOf, BitVec.toNat_ofNat, Nat.mod_eq_of_lt h]

theorem beNat_be16 {n : Nat} (h : fits16 n = true) : beNat (be16 n) = n := by
  simp only [fits16, decide_eq_true_eq] at h
  simp only [beNat, be16, byteOf, List.foldl_cons, List.foldl_nil, BitVec.toNat_ofNat]
  omega

theorem beNat_be32 {n : Nat} (h : fits32 n = true) : beNat (be32 n) = n := by
  simp only [fits32, decide_eq_true_eq] at h
  simp only [beNat, be32, byteOf, List.foldl_cons, List.foldl_nil, BitVec.toNat_ofNat]
  omega

theorem signedOf_byte {z : Int} (h : fitsSigned8 z = true) : signedOf 8 (byteOf (twosOf 8 z)).toNat = z := by
  simp only [fitsSigned8, decide_eq_true_eq] at h
  have low : twosOf 8 z = (z % 256).toNat := rfl
  have fits : fits8 (twosOf 8 z) = true := by rw [low, fits8, decide_eq_true_eq]; omega
  rw [toNat_byteOf fits, low]
  change (if (z % 256).toNat < 128 then ((z % 256).toNat : Int) else (z % 256).toNat - 256) = z
  split <;> omega

theorem twosOf_sixteen (z : Int) : twosOf 16 z = (z % 65536).toNat := rfl

theorem signedOf_sixteen (n : Nat) : signedOf 16 n = if n < 32768 then (n : Int) else n - 65536 := rfl

theorem fits16_twosOf (z : Int) : fits16 (twosOf 16 z) = true := by
  rw [twosOf_sixteen, fits16, decide_eq_true_eq]
  omega

/-- Two's complement in two bytes reads back as the number. -/
theorem signedOf_twosOf {z : Int} (h : fitsSigned16 z = true) : signedOf 16 (twosOf 16 z) = z := by
  simp only [fitsSigned16, decide_eq_true_eq] at h
  rw [twosOf_sixteen, signedOf_sixteen]
  split <;> omega

theorem signedOf_be16 {z : Int} (h : fitsSigned16 z = true) : signedOf 16 (beNat (be16 (twosOf 16 z))) = z := by
  rw [beNat_be16 (fits16_twosOf z), signedOf_twosOf h]

theorem beNat_be16_twosOf {z : Int} (h : 0 ≤ z ∧ z < 65536) : ((beNat (be16 (twosOf 16 z)) : Nat) : Int) = z := by
  rw [beNat_be16 (fits16_twosOf z), twosOf]
  omega

/-- An optional unsigned argument reads back. -/
theorem optArg_bytes {a : OptArg} (h : a.fits = true) :
    (⟨(byteOf a.presence).toNat, beNat (be16 (twosOf 16 a.value))⟩ : OptArg) = a := by
  simp only [OptArg.fits, Bool.and_eq_true, decide_eq_true_eq] at h
  rw [toNat_byteOf h.1, beNat_be16_twosOf h.2]

/-- An optional signed argument reads back. -/
theorem optSignedArg_bytes {a : OptArg} (h : a.fitsSigned = true) :
    (⟨(byteOf a.presence).toNat, signedOf 16 (beNat (be16 (twosOf 16 a.value)))⟩ : OptArg) = a := by
  simp only [OptArg.fitsSigned, Bool.and_eq_true] at h
  rw [toNat_byteOf h.1, signedOf_be16 h.2]

/-- The entries of SET LEVELS read back. -/
theorem pairsOf?_bytes (es : List (Nat × Nat)) (h : ∀ e ∈ es, fits8 e.1 = true ∧ fits8 e.2 = true) :
    pairsOf? (es.flatMap fun e => [byteOf e.1, byteOf e.2]) = some es := by
  induction es with
  | nil => rfl
  | cons e es ih =>
    obtain ⟨hkind, hlevel⟩ := h e List.mem_cons_self
    change (pairsOf? (es.flatMap fun e => [byteOf e.1, byteOf e.2])).map (((byteOf e.1).toNat, (byteOf e.2).toNat) :: ·) = _
    rw [ih fun d hd => h d (List.mem_cons_of_mem _ hd), toNat_byteOf hkind, toNat_byteOf hlevel]
    rfl

/-- The factors of SET PROFILE read back. -/
theorem map_toNat_byteOf (fs : List Nat) (h : ∀ f ∈ fs, fits8 f = true) : (fs.map byteOf).map (·.toNat) = fs := by
  rw [List.map_map]
  exact (List.map_congr_left fun f hf => toNat_byteOf (h f hf)).trans (List.map_id _)

/-- The tag of STAGE HEADER reads back, with the two bytes after it. -/
theorem takeString?_bytes (tag tail : List Byte) (h : fits8 tag.length = true) :
    takeString? (byteOf tag.length) (tag ++ tail) = some (tag, tail) := by
  simp [takeString?, toNat_byteOf h]

end Sys2Proof.Machine
end

section
/-! Every request's arguments read back from the bytes that carry them (R6). -/

namespace Sys2Proof.Machine

theorem decodeRequest_encodeArgs_setLevels (l : Link) (es : List (Nat × Nat))
    (hw : wellFormed (.setLevels l es) = true) :
    decodeRequest l 0x02 (encodeArgs (.setLevels l es)) = some (.setLevels l es) := by
  unfold wellFormed at hw
  simp only [Bool.and_eq_true, List.all_eq_true] at hw
  obtain ⟨hlength, hes⟩ := hw
  change ((pairsOf? (es.flatMap fun e => [byteOf e.1, byteOf e.2])).bind fun ps =>
    if ps.length = (byteOf es.length).toNat then some (Instr.setLevels l ps) else none) = _
  rw [pairsOf?_bytes es hes, toNat_byteOf hlength]
  exact if_pos rfl

theorem decodeRequest_encodeArgs_setSerial (l : Link) (i : Nat) (cs : List Byte)
    (hw : wellFormed (.setSerial i cs) = true) :
    decodeRequest l 0x18 (encodeArgs (.setSerial i cs)) = some (.setSerial i cs) := by
  unfold wellFormed at hw
  simp only [Bool.and_eq_true] at hw
  obtain ⟨hi, hlength⟩ := hw
  change (if cs.length = (byteOf cs.length).toNat then some (Instr.setSerial (byteOf i).toNat cs) else none) = _
  rw [toNat_byteOf hlength, toNat_byteOf hi]
  exact if_pos rfl

theorem decodeRequest_encodeArgs_setProfile (l : Link) (p : Nat) (b : Int) (w : Nat) (fs : List Nat)
    (hw : wellFormed (.setProfile p b w fs) = true) :
    decodeRequest l 0x29 (encodeArgs (.setProfile p b w fs)) = some (.setProfile p b w fs) := by
  unfold wellFormed at hw
  simp only [Bool.and_eq_true, decide_eq_true_eq, List.all_eq_true] at hw
  obtain ⟨⟨⟨⟨hp, hb⟩, hwidth⟩, hlength⟩, hfs⟩ := hw
  change (if (fs.map byteOf).length = 16 then some (Instr.setProfile (byteOf p).toNat (signedOf 16 (beNat (be16 (twosOf 16 b))))
    (byteOf w).toNat ((fs.map byteOf).map (·.toNat))) else none) = _
  rw [List.length_map, if_pos hlength, toNat_byteOf hp, toNat_byteOf hwidth, signedOf_be16 hb, map_toNat_byteOf fs hfs]

theorem decodeRequest_encodeArgs_stageHeader (l : Link) (i r : Nat) (tag : List Byte) (m : Nat)
    (hw : wellFormed (.stageHeader i r tag m) = true) :
    decodeRequest l 0x30 (encodeArgs (.stageHeader i r tag m)) = some (.stageHeader i r tag m) := by
  unfold wellFormed at hw
  simp only [Bool.and_eq_true] at hw
  obtain ⟨⟨⟨hi, hr⟩, htag⟩, hm⟩ := hw
  change Option.bind (takeString? (byteOf tag.length) (tag ++ be16 m)) _ = _
  rw [takeString?_bytes tag (be16 m) htag]
  change some (Instr.stageHeader (beNat (be16 i)) (byteOf r).toNat tag (beNat (be16 m))) = _
  rw [beNat_be16 hi, toNat_byteOf hr, beNat_be16 hm]

/-- The bytes of a request's arguments read back as the request. -/
theorem decodeRequest_encodeArgs (c : Instr) (l : Link) (hl : requestLink c = some l) (hw : wellFormed c = true) :
    decodeRequest l (requestCode c) (encodeArgs c) = some c := by
  cases c with
  | setLevels _ es => cases hl; exact decodeRequest_encodeArgs_setLevels l es hw
  | setSerial i cs => exact decodeRequest_encodeArgs_setSerial l i cs hw
  | setProfile p b w fs => exact decodeRequest_encodeArgs_setProfile l p b w fs hw
  | stageHeader i r tag m => exact decodeRequest_encodeArgs_stageHeader l i r tag m hw
  | takeNotice _ | readClock _ => cases hl; rfl
  | lockOverride | suspend | resume | stop | clearStoreStatus | storeClear | readStore | patchEdit | patchApply
  | patchWithdraw | rackReset => rfl
  | powerOn _ | powerOff _ | advance _ | finish _ | accessCancel _ | quiet _ | program _ | erase _ | blankCheck _ | lock _
  | setStoreMode _ | setFetchPriority _ | closeTote _ | releaseTote _ =>
    exact congrArg some (by rw [toNat_byteOf hw])
  | setMask _ _ | readSlot _ _ => cases hl; exact congrArg some (by rw [toNat_byteOf hw])
  | readTote _ _ _ =>
    cases hl
    unfold wellFormed at hw
    simp only [Bool.and_eq_true] at hw
    exact congrArg some (by simp only [toNat_byteOf, hw])
  | setPower _ _ _ | setInputs _ _ _ | abort _ _ | accessRequest _ _ | accessDone _ _ | setQuiet _ _ _ | setScan _ _
  | readRecipe _ _ =>
    unfold wellFormed at hw
    simp only [Bool.and_eq_true] at hw
    exact congrArg some (by simp only [toNat_byteOf, hw])
  | setTime t m =>
    unfold wellFormed at hw
    simp only [Bool.and_eq_true] at hw
    change some (Instr.setTime (beNat (be32 t)) (beNat (be16 m))) = _
    rw [beNat_be32 hw.1, beNat_be16 hw.2]
  | start i r =>
    unfold wellFormed at hw
    simp only [Bool.and_eq_true] at hw
    change some (Instr.start (byteOf i).toNat (beNat (be16 r))) = _
    rw [toNat_byteOf hw.1, beNat_be16 hw.2]
  | measure i m v =>
    unfold wellFormed at hw
    simp only [Bool.and_eq_true] at hw
    change some (Instr.measure (byteOf i).toNat (byteOf m).toNat (beNat (be32 v))) = _
    simp only [toNat_byteOf, beNat_be32, hw]
  | setOffset i o =>
    unfold wellFormed at hw
    simp only [Bool.and_eq_true] at hw
    change some (Instr.setOffset (byteOf i).toNat (signedOf 8 (byteOf (twosOf 8 o)).toNat)) = _
    rw [toNat_byteOf hw.1, signedOf_byte hw.2]
  | stageStep i k s u t m p d x =>
    unfold wellFormed at hw
    simp only [Bool.and_eq_true] at hw
    change some (Instr.stageStep (byteOf i).toNat (byteOf k).toNat (byteOf s).toNat (byteOf u).toNat
      ⟨(byteOf t.presence).toNat, beNat (be16 (twosOf 16 t.value))⟩ (byteOf m).toNat (byteOf p).toNat
      ⟨(byteOf d.presence).toNat, beNat (be16 (twosOf 16 d.value))⟩
      ⟨(byteOf x.presence).toNat, signedOf 16 (beNat (be16 (twosOf 16 x.value)))⟩) = _
    simp only [toNat_byteOf, optArg_bytes, optSignedArg_bytes, hw]
  | stageLimits m a b r q =>
    unfold wellFormed at hw
    simp only [Bool.and_eq_true] at hw
    change some (Instr.stageLimits (byteOf m).toNat (beNat (be32 a)) (beNat (be32 b)) (beNat (be32 r)) (byteOf q).toNat) = _
    simp only [toNat_byteOf, beNat_be32, hw]
  | patchSet c e b k s f v =>
    unfold wellFormed at hw
    simp only [Bool.and_eq_true] at hw
    change some (Instr.patchSet (byteOf c).toNat (byteOf e).toNat (byteOf b).toNat (byteOf k).toNat (byteOf s).toNat
      (byteOf f).toNat (beNat (be32 v))) = _
    simp only [toNat_byteOf, beNat_be32, hw]
  | openTote t b c =>
    unfold wellFormed at hw
    simp only [Bool.and_eq_true] at hw
    change some (Instr.openTote (beNat (be32 t)) (byteOf b).toNat (byteOf c).toNat) = _
    simp only [toNat_byteOf, beNat_be32, hw]
  | _ => cases hl

/-- Settles O7: the code of each request, and its arguments read back from their bytes. -/
theorem argumentsDecodeAsEncoded : Obligations.ArgumentsDecodeAsEncoded :=
  ⟨fun c => by cases c <;> rfl, fun c l hl hw _ => decodeRequest_encodeArgs c l hl hw⟩

end Sys2Proof.Machine
end

section
/-! The values after reset (R14, R29, R36, R48, R76, R97, R113, R137, R147, R170), and the laws they satisfy. -/

namespace Sys2Proof.Machine

/-! ### What each accessor reads after reset -/

@[simp] theorem slot_reset (i : Slot) : State.reset.slot i = .reset := tget_replicate _ i
@[simp] theorem power_reset (i : Slot) : State.reset.power i = ⟨.off, false, none⟩ := tget_replicate _ i
@[simp] theorem access_reset (r : Fin 2) : State.reset.access r = .free := tget_replicate _ r
@[simp] theorem holdCount_reset (i : Slot) : State.reset.holdCount i = 0 := tget_replicate _ i
@[simp] theorem temp_reset (i : Slot) : State.reset.temp i = ⟨none, 0, 0, false⟩ := tget_replicate _ i
@[simp] theorem tote_reset (t : ToteNo) : State.reset.tote t = .free := tget_replicate _ t
@[simp] theorem waitQueue_reset (g : Bin) : State.reset.waitQueue g = [] := tget_replicate _ g.queue
@[simp] theorem mailOf_reset (i : Slot) : State.reset.mailOf i = .empty := mailOf_afterReset ..
@[simp] theorem watch_reset (i : Slot) : tget State.reset.rck.watch i = none := tget_replicate _ i
@[simp] theorem channel_reset (c : Fin 4) : tget State.reset.pcu.channels c = ⟨false, 0, .minCredit, 0⟩ := tget_replicate _ c
@[simp] theorem note_reset (i : Slot) : tget State.reset.ttb.notes i = none := tget_replicate _ i
@[simp] theorem profile_reset (p : Fin 2) : tget State.reset.tau.profiles p = .default := tget_replicate _ p
@[simp] theorem offset_reset (i : Slot) : tget State.reset.tau.offsets i = 0 := tget_replicate _ i
@[simp] theorem presence_reset (i : Slot) : tget State.reset.sif.presence i = ⟨false, 0⟩ := tget_replicate _ i
@[simp] theorem latch_reset (i : Slot) : tget State.reset.sif.latch i = ⟨false, 0⟩ := tget_replicate _ i
@[simp] theorem stagedStep_reset (i : Fin 16) : tget State.reset.rst.staging.steps i = none := tget_replicate _ i
@[simp] theorem stagedLimit_reset (m : MeasureId) : tget State.reset.rst.staging.limits m = none := tget_replicate _ m

@[simp] theorem block_reset (b : BlockNo) : State.reset.block b = ⟨.blank, false, none, 0⟩ :=
  (tget_tof _ b).trans (by rw [factoryCells, tget_replicate])

@[simp] theorem link_reset (l : Link) : State.reset.link l = .reset l := by cases l <;> rfl

/-- The level of a kind after reset: its default where the link records it. -/
theorem level_reset (l : Link) (k : NoticeKind) :
    (LinkState.reset l).level k = if k.recordedOn l then k.defaultLevel else 0 :=
  (tget_tof _ k.place).trans (by cases k <;> rfl)

/-- Settles O3: the reset effect, and every block's values after it. -/
theorem resetLeavesEveryBlockAtItsValues : Obligations.ResetLeavesEveryBlockAtItsValues := by
  refine ⟨fun s => rfl, fun l => ?_, rfl, rfl, rfl, watch_reset, fun i => ⟨presence_reset i, latch_reset i⟩, rfl, rfl, rfl, rfl,
    power_reset, rfl, rfl, rfl, rfl, rfl, fun i => ?_, access_reset, holdCount_reset, rfl, rfl, rfl, temp_reset,
    fun p => ?_, offset_reset, rfl, rfl, rfl, rfl, rfl, rfl, stagedStep_reset, stagedLimit_reset, rfl, rfl, rfl, block_reset,
    rfl, rfl, rfl, channel_reset, tote_reset, waitQueue_reset, note_reset, rfl, mailOf_reset, rfl, rfl, rfl, rfl, rfl⟩
  · rw [link_reset]
    exact ⟨rfl, rfl, rfl, rfl, rfl, rfl, fun k => (level_reset l k).trans (by cases k <;> rfl)⟩
  · rw [slot_reset]
    exact ⟨rfl, rfl, rfl, rfl, rfl, rfl, rfl, rfl, rfl, rfl, rfl, rfl, rfl, fun m => tget_replicate _ m, rfl, rfl, rfl, rfl, rfl,
      rfl, rfl⟩
  · rw [profile_reset]
    exact ⟨rfl, rfl, rfl⟩

/-! ### The laws (R14 to R170) -/

theorem clockLaws_reset : ClockLaws State.reset where
  time := by decide
  phase := by decide
  armed i d hd := by rw [watch_reset] at hd; cases hd

theorem inputLaws_reset : InputLaws State.reset.sif where
  presence i := by rw [presence_reset]; exact Nat.zero_le _
  latch i := by rw [latch_reset]; exact Nat.zero_le _
  interval := by decide
  startUp := by decide

theorem powerLaws_reset : PowerLaws State.reset.psq where
  queueOnce := List.nodup_nil
  queued i := by rw [← State.power, power_reset]; exact ⟨fun h => absurd h List.not_mem_nil, fun h => by cases h⟩
  lanes := by decide
  output i := by rw [← State.power, power_reset]; simp
  timer i := by rw [← State.power, power_reset]; simp
  looked := .inl rfl
  budget := by decide
  times := by decide

/-- A slot record after reset is an empty one. -/
theorem recordLaws_reset : RecordLaws .reset where
  empty _ := rfl
  fresh h := by cases h
  recipe := rfl
  context := rfl
  quiet h := absurd rfl h
  asked h := by cases h
  grade := rfl
  finished := rfl
  generation := rfl
  fault h := by cases h
  loaded := by decide
  marks := Nat.zero_le _
  stage := by rintro _ ⟨⟩
  credit := by rintro _ ⟨⟩
  total := Nat.zero_le _
  serial := by rintro _ ⟨⟩

theorem serialLaws_reset : SerialLaws State.reset where
  slots i j cs hcs := by rw [slot_reset] at hcs; cases hcs
  entries i t cs hcs := by rw [slot_reset] at hcs; cases hcs
  totes t u p q cs ht := by rw [tote_reset] at ht; cases ht

theorem quietLaws_reset : QuietLaws State.reset where
  zones r u hu := by rw [access_reset] at hu; cases hu
  targets u hu := by rw [access_reset] at hu; cases hu
  timed r := by rw [access_reset]; rfl
  holds i := by rw [holdCount_reset, access_reset, access_reset]; rfl
  granted r j hj := by rw [access_reset] at hj; cases hj
  kept r u hu := by rw [access_reset] at hu; cases hu
  released i hi := by rw [slot_reset] at hi; exact absurd rfl hi
  settings := by decide

theorem thermalLaws_reset : ThermalLaws State.reset.tau where
  filtered i t ht := by rw [← State.temp, temp_reset] at ht; cases ht
  failures i := by rw [← State.temp, temp_reset]; decide
  hot i := by rw [← State.temp, temp_reset]; decide
  stale i hi := by rw [← State.temp, temp_reset] at hi; cases hi
  factors p b := by rw [profile_reset]; revert b; decide
  widths p := by rw [profile_reset]; decide
  offsets i := by rw [offset_reset]; decide
  weight := by decide
  period := by decide

theorem storeLaws_reset : StoreLaws State.reset.rst where
  records b := by rw [← State.block, block_reset]; decide
  locks b hb := by rw [← State.block, block_reset] at hb; cases hb
  recipes b r hr := by rw [← State.block, block_reset] at hr; cases hr
  distinct b c r hr := by rw [← State.block, block_reset] at hr; cases hr
  running := by rintro _ ⟨⟩
  suspended := by rintro _ ⟨⟩
  nested := by rintro _ ⟨⟩
  nestedWork := by rintro _ ⟨⟩
  asked := by rintro _ ⟨⟩
  staging i e he := by rw [stagedStep_reset] at he; cases he
  override _ := rfl

theorem referenceLaws_reset : ReferenceLaws State.reset where
  counted b := by simp only [block_reset, slot_reset]; rfl
  held i ref href := by rw [slot_reset] at href; cases href
  answered := by rintro _ ⟨⟩
  entries := by rintro _ ⟨⟩
  stageFetch := by rintro _ ⟨⟩
  waiting := ⟨fun h => (by cases h), by rintro ⟨_, ⟨⟩, _⟩⟩
  cleared := by rintro _ ⟨⟩

theorem patchLaws_reset : PatchLaws State.reset where
  active h := by cases h
  generation := Nat.zero_le _

theorem toteLaws_reset : ToteLaws State.reset where
  oneOpen t u b hb := by rw [tote_reset] at hb; cases hb
  size t b hb := by rw [tote_reset] at hb; cases hb
  closed t b hb := by rw [tote_reset] at hb; cases hb
  reserved t i b hb := by rw [tote_reset] at hb; cases hb
  unload i := by simp only [tote_reset, slot_reset]; rfl
  queueOnce g := by rw [waitQueue_reset]; exact List.nodup_nil
  queues g i := by rw [waitQueue_reset, slot_reset]; exact ⟨fun h => absurd h List.not_mem_nil, fun h => by cases h.1⟩
  noRoom t b hb := by rw [tote_reset] at hb; cases hb
  filledBin t b hb := by rw [tote_reset] at hb; cases hb
  notes i := by rw [note_reset, slot_reset]; rfl

/-- Settles O4: the laws of the whole part hold right after reset. -/
theorem lawsHoldAtReset : Obligations.LawsHoldAtReset where
  test := linksLawful_afterReset _ _ _ _ .test
  handler := linksLawful_afterReset _ _ _ _ .handler
  line := linksLawful_afterReset _ _ _ _ .line
  holds := holdLaws_afterReset ..
  clock := clockLaws_reset
  inputs := inputLaws_reset
  power := powerLaws_reset
  records i := by rw [slot_reset]; exact recordLaws_reset
  serials := serialLaws_reset
  quiet := quietLaws_reset
  thermal := thermalLaws_reset
  store := storeLaws_reset
  references := referenceLaws_reset
  patches := patchLaws_reset
  totes := toteLaws_reset

end Sys2Proof.Machine
end

section
/-! Totes (R166 to R169): the records, the wait queue that an opened tote serves, and the tote requests. -/

namespace Sys2Proof.Machine

/-! ### Records and queues -/

theorem tset_tset {α : Type} {n : Nat} (v : Vector α n) (i : Fin n) (x y : α) : tset (tset v i x) i y = tset v i y := by
  simp [tset]

theorem tset_tget {α : Type} {n : Nat} (v : Vector α n) (i : Fin n) : tset v i (tget v i) = v := by simp [tset, tget]

theorem State.setTote_setTote (s : State) (t : ToteNo) (r q : Tote) : (s.setTote t r).setTote t q = s.setTote t q := by
  simp only [State.setTote, tset_tset]

theorem State.setQueue_setQueue (s : State) (g : Bin) (q r : List Slot) :
    (s.setQueue g q).setQueue g r = s.setQueue g r := by simp only [State.setQueue, tset_tset]

theorem State.setTote_self (s : State) {t : ToteNo} {r : Tote} (h : s.tote t = r) : s.setTote t r = s := by
  subst h; simp only [State.setTote, State.tote, tset_tget]

theorem State.setQueue_self (s : State) {g : Bin} {q : List Slot} (h : s.waitQueue g = q) : s.setQueue g q = s := by
  subst h; simp only [State.setQueue, State.waitQueue, tset_tget]

theorem State.tote_setTote_same (s : State) (t : ToteNo) (r : Tote) : (s.setTote t r).tote t = r := tget_tset_same ..

theorem State.waitQueue_setQueue_same (s : State) (g : Bin) (q : List Slot) : (s.setQueue g q).waitQueue g = q :=
  tget_tset_same ..

/-- No OPEN record but `t` is the bin's. -/
def State.openOnly (s : State) (g : Bin) (t : ToteNo) : Prop := ∀ u c, s.tote u = .opened c → c.bin = g → u = t

theorem State.openOnly.setTote {s : State} {g : Bin} {t : ToteNo} (h : s.openOnly g t) (r : Tote) :
    (s.setTote t r).openOnly g t := by
  intro u c hu hc
  rw [State.tote_setTote] at hu
  split at hu
  · assumption
  · exact h u c hu hc

theorem Tote.open?_eq_some {r : Tote} {b : ToteBody} (h : r.open? = some b) : r = .opened b := by
  cases r <;> cases h; rfl

/-- The OPEN record of a bin is one. -/
theorem State.openFor?_some {s : State} {g : Bin} {t : ToteNo} {b : ToteBody} (h : s.ttb.openFor? g = some (t, b)) :
    s.tote t = .opened b ∧ b.bin = g := by
  obtain ⟨u, -, hu⟩ := List.exists_of_findSome?_eq_some h
  split at hu
  · next c hc =>
    obtain ⟨hg, e⟩ := Option.ite_none_right_eq_some.1 hu
    cases e
    exact ⟨Tote.open?_eq_some hc, hg⟩
  · cases hu

/-- Without an OPEN record of the bin there is none. -/
theorem State.openFor?_none_iff (s : State) (g : Bin) :
    s.ttb.openFor? g = none ↔ ¬ ∃ t b, s.tote t = .opened b ∧ b.bin = g := by
  constructor
  · rintro h ⟨t, b, ht, hg⟩
    have := List.findSome?_eq_none_iff.1 h t (List.mem_finRange t)
    change tget s.ttb.totes t = .opened b at ht
    rw [ht] at this
    simp [Tote.open?, hg] at this
  · intro h
    cases e : s.ttb.openFor? g with
    | none => rfl
    | some p => exact absurd ⟨p.1, p.2, State.openFor?_some e⟩ h

/-- The bin's only OPEN record is found. -/
theorem State.openFor?_eq {s : State} {g : Bin} {t : ToteNo} {b : ToteBody} (ht : s.tote t = .opened b) (hg : b.bin = g)
    (h : s.openOnly g t) : s.ttb.openFor? g = some (t, b) := by
  cases e : s.ttb.openFor? g with
  | none => exact absurd ⟨t, b, ht, hg⟩ ((s.openFor?_none_iff g).1 e)
  | some p =>
    obtain ⟨u, c⟩ := p
    obtain ⟨hu, hc⟩ := State.openFor?_some e
    obtain rfl := h u c hu hc
    cases hu.symm.trans ht
    rfl

theorem State.firstFree?_none {s : State} (h : ∀ t, s.tote t ≠ .free) : s.ttb.firstFree? = none := by
  refine List.find?_eq_none.2 fun t _ ht => h t ?_
  unfold State.tote
  split at ht
  · assumption
  · cases ht

/-- The lowest FREE record is found. -/
theorem State.firstFree?_eq {s : State} {t : ToteNo} (ht : s.tote t = .free) (hlow : ∀ u, u < t → s.tote u ≠ .free) :
    s.ttb.firstFree? = some t := by
  have free (u : ToteNo) : (match tget s.ttb.totes u with | .free => true | _ => false) = true ↔ s.tote u = .free := by
    unfold State.tote; split <;> simp_all
  obtain ⟨before, after, split⟩ := List.append_of_mem (List.mem_finRange t)
  refine List.find?_eq_some_iff_append.2 ⟨(free t).2 ht, before, after, split, fun u hu => ?_⟩
  have sorted : (before ++ t :: after).Pairwise (· < ·) := split ▸ List.pairwise_lt_finRange 8
  have hlt : u < t := (List.pairwise_append.1 sorted).2.2 u hu t List.mem_cons_self
  exact Eq.mpr (Bool.not_eq_true' _) (Bool.eq_false_iff.2 (mt (free u).1 (hlow u hlt)))

/-! ### An opened tote serves its bin's wait queue (R166) -/

/-- A record whose first positions are reserved and whose others are empty. -/
def reservedBody (n : Nat) (g : Bin) (done : List Slot) (room : Nat) : ToteBody :=
  ⟨n, g, done.map .reserved ++ List.replicate room .empty⟩

theorem reservedBody_lowestEmpty (n : Nat) (g : Bin) (done : List Slot) (room : Nat) :
    (reservedBody n g done room).lowestEmpty? = if room = 0 then none else some done.length := by
  induction done with
  | nil => cases room <;> rfl
  | cons i done ih =>
    change ((.reserved i : Position) :: (reservedBody n g done room).positions).findIdx? Position.isEmpty = _
    rw [List.findIdx?_cons, if_neg (by simp [Position.isEmpty])]
    change ((reservedBody n g done room).lowestEmpty?).map (· + 1) = _
    rw [ih]
    split <;> rfl

theorem reservedBody_put (n : Nat) (g : Bin) (done : List Slot) (room : Nat) (i : Slot) :
    (reservedBody n g done (room + 1)).put done.length (.reserved i) = reservedBody n g (done ++ [i]) room := by
  simp [reservedBody, ToteBody.put, List.replicate_succ]

/-- A slot becomes UNLOAD, with UNLOAD_READY. -/
def State.becomeUnload (s : State) (i : Slot) : State :=
  (s.putSlot i { s.slot i with state := .unload }).post .unloadReady i.val

theorem State.reserve?_eq {s : State} {g : Bin} {t : ToteNo} {b : ToteBody} (h : s.ttb.openFor? g = some (t, b)) (i : Slot) :
    s.reserve? g i = b.lowestEmpty?.map fun p => (s.setTote t (.opened (b.put p (.reserved i)))).becomeUnload i := by
  unfold State.reserve?; rw [h]; rfl

/-- The wait queue of a bin is served from its head into the empty positions of the bin's only OPEN record. -/
theorem State.serveQueue_eq (n : Nat) (g : Bin) (t : ToteNo) (q : List Slot) : ∀ (s : State) (done : List Slot) (room : Nat),
    s.tote t = .opened (reservedBody n g done room) → s.openOnly g t → s.waitQueue g = q →
    State.serveQueue g q s = ((q.take room).foldl State.becomeUnload
      ((s.setTote t (.opened (reservedBody n g (done ++ q.take room) (room - (q.take room).length)))).setQueue g (q.drop room)),
      (q.take room).length) := by
  induction q with
  | nil =>
    intro s done room ht _ hq
    simp only [List.take_nil, List.drop_nil, List.append_nil, List.length_nil, Nat.sub_zero, List.foldl_nil]
    rw [s.setTote_self ht, s.setQueue_self hq]
    rfl
  | cons i q ih =>
    intro s done room ht honly hq
    have found : (s.setQueue g q).ttb.openFor? g = some (t, reservedBody n g done room) := State.openFor?_eq ht rfl honly
    have taken := State.reserve?_eq found i
    rw [reservedBody_lowestEmpty] at taken
    unfold State.serveQueue
    cases room with
    | zero =>
      rw [taken]
      simp only [List.take_zero, List.drop_zero, List.append_nil, List.length_nil, Nat.sub_zero, List.foldl_nil]
      rw [s.setTote_self ht, s.setQueue_self hq]
      rfl
    | succ room =>
      rw [if_neg (Nat.succ_ne_zero room), Option.map_some, reservedBody_put] at taken
      rw [taken]
      have next := ih (((s.setQueue g q).setTote t (.opened (reservedBody n g (done ++ [i]) room))).becomeUnload i)
        (done ++ [i]) room (State.tote_setTote_same ..) (State.openOnly.setTote honly _) (State.waitQueue_setQueue_same ..)
      simp only [next, List.take_succ_cons, List.drop_succ_cons, List.length_cons, List.foldl_cons, List.append_assoc,
        List.singleton_append, Nat.add_sub_add_right]
      congr 2
      have commute (u : State) (r : Tote) (w : List Slot) :
          ((u.becomeUnload i).setTote t r).setQueue g w = ((u.setTote t r).setQueue g w).becomeUnload i := rfl
      have swap (r : Tote) : (s.setQueue g q).setTote t r = (s.setTote t r).setQueue g q := rfl
      rw [commute, State.setTote_setTote, swap, State.setQueue_setQueue]

/-! ### OPEN TOTE, CLOSE TOTE and RELEASE TOTE (R166 to R168) -/

theorem binOf?_code (g : Bin) : binOf? g.code = some g := by cases g <;> rfl

theorem binOf?_none {m : Nat} (h : 3 < m) : binOf? m = none := by
  unfold binOf?; split <;> first | rfl | omega

/-- OPEN TOTE with a value out of its range. -/
theorem serveOpenTote_range (n m k : Nat) (s : State) (h : ¬ (n ≤ 4294967295 ∧ m ≤ 3 ∧ 1 ≤ k ∧ k ≤ 40)) :
    serveOpenTote n m k s = (s, .refuse .range) := by
  unfold serveOpenTote
  split
  · next hn hm hk =>
    have : m ≤ 3 := by
      by_contra hm'
      rw [binOf?_none (not_le.1 hm')] at hm
      cases hm
    exact absurd ⟨(natIn?_some hn).2.2, this, (natIn?_some hk).2⟩ h
  · rfl

/-- OPEN TOTE with values in their ranges. -/
theorem serveOpenTote_legal (n k : Nat) (g : Bin) (s : State) (hn : n ≤ 4294967295) (hk : 1 ≤ k ∧ k ≤ 40) :
    serveOpenTote n g.code k s = if (s.ttb.openFor? g).isSome then (s, .refuse .wrongState)
      else match s.ttb.firstFree? with
        | none => (s, .refuse .full)
        | some t =>
          let u := s.setTote t (.opened (reservedBody n g [] k))
          let q := State.serveQueue g (u.waitQueue g) u
          (q.1, .done [byteOf t.val, byteOf q.2]) := by
  unfold serveOpenTote
  rw [natIn?_in ⟨Nat.zero_le n, hn⟩, binOf?_code, natIn?_in hk]
  rfl

theorem ToteBody.reserved_eq_zero (b : ToteBody) : b.reserved = 0 ↔ ¬ ∃ i, Position.reserved i ∈ b.positions := by
  rw [ToteBody.reserved, List.countP_eq_zero]
  constructor
  · rintro h ⟨i, hi⟩
    exact h _ hi rfl
  · rintro h (_ | i | e) hp hres
    · cases hres
    · exact h ⟨i, hp⟩
    · cases hres

/-- Without reservations the positions that are not empty are the filled ones. -/
theorem ToteBody.filled_eq (b : ToteBody) (h : ¬ ∃ i, Position.reserved i ∈ b.positions) :
    b.filled = b.positions.countP fun p => decide (p ≠ .empty) := by
  refine List.countP_congr fun p hp => ?_
  rcases p with _ | i | e
  · simp [Position.isFilled]
  · exact absurd ⟨i, hp⟩ h
  · simp [Position.isFilled]

theorem State.waitQueue_setTote (s : State) (t : ToteNo) (r : Tote) (g : Bin) :
    (s.setTote t r).waitQueue g = s.waitQueue g := rfl

/-- OPEN TOTE takes the lowest FREE record, and the head of the bin's wait queue is reserved in it. -/
theorem serveOpenTote_opens (n k : Nat) (g : Bin) (s : State) (t : ToteNo) (hn : n ≤ 4294967295) (hk : 1 ≤ k ∧ k ≤ 40)
    (hunused : ¬ ∃ t b, s.tote t = .opened b ∧ b.bin = g) (ht : s.tote t = .free) (hlow : ∀ u, u < t → s.tote u ≠ .free) :
    serveOpenTote n g.code k s =
      (((s.waitQueue g).take k).foldl State.becomeUnload
        ((s.setTote t (.opened (reservedBody n g ((s.waitQueue g).take k) (k - ((s.waitQueue g).take k).length)))).setQueue g
          ((s.waitQueue g).drop k)),
        .done [byteOf t.val, byteOf ((s.waitQueue g).take k).length]) := by
  have only : (s.setTote t (.opened (reservedBody n g [] k))).openOnly g t :=
    State.openOnly.setTote (fun u b hu hg => absurd ⟨u, b, hu, hg⟩ hunused) _
  have served := State.serveQueue_eq n g t (s.waitQueue g) _ [] k (s.tote_setTote_same t _) only rfl
  rw [State.setTote_setTote, List.nil_append] at served
  rw [serveOpenTote_legal n k g s hn hk, (s.openFor?_none_iff g).2 hunused, State.firstFree?_eq ht hlow]
  simp only [State.waitQueue_setTote, served]
  rfl

/-! ### READ TOTE (R17, R169) -/

theorem Tote.body?_eq {r : Tote} {b : ToteBody} (h : r = .opened b ∨ r = .closed b) : r.body? = some b := by
  rcases h with rfl | rfl <;> rfl

/-- READ TOTE of a record that is not FREE. -/
theorem serveReadTote_body (t : ToteNo) (m : Nat) (s : State) (b : ToteBody) (hm : m ≤ 40)
    (hb : s.tote t = .opened b ∨ s.tote t = .closed b) : serveReadTote t.val m s =
      if m = 0 then (s, .done (toteSummary t (s.tote t) b))
      else match b.positions[m - 1]? with
        | some p => (s, .done (positionEntry t m p))
        | none => (s, .refuse .range) := by
  unfold serveReadTote
  rw [toteOf?_val, natIn?_in ⟨Nat.zero_le m, hm⟩]
  simp only [Tote.body?_eq hb] <;> rfl

/-- READ TOTE of a position. -/
theorem serveReadTote_position (t : ToteNo) (m : Nat) (s : State) (b : ToteBody) (p : Position) (hm : m ≤ 40)
    (hb : s.tote t = .opened b ∨ s.tote t = .closed b) (h1 : 1 ≤ m) (hp : b.positions[m - 1]? = some p) :
    serveReadTote t.val m s = (s, .done (positionEntry t m p)) := by
  rw [serveReadTote_body t m s b hm hb, if_neg (by omega), hp]

/-- The summary of a record, byte by byte. -/
theorem toteSummary_eq (t : ToteNo) (r : Tote) (b : ToteBody) (h : r = .opened b ∨ r = .closed b) : toteSummary t r b =
    [BitVec.ofNat 8 t.val, if r = .opened b then 1#8 else 2#8] ++ be32 b.label ++
      [BitVec.ofNat 8 b.bin.code, BitVec.ofNat 8 b.positions.length, BitVec.ofNat 8 (b.positions.countP fun p => match p with
          | .filled _ => true
          | _ => false), BitVec.ofNat 8 (b.positions.countP fun p => match p with
          | .reserved _ => true
          | _ => false)] ++
      b.positions.map fun p => match p with
        | .empty => 255#8
        | .filled _ => 254#8
        | .reserved i => BitVec.ofNat 8 i.val := by
  have state : byteOf r.stateCode = if r = .opened b then 1#8 else 2#8 := by
    rcases h with rfl | rfl
    · rw [if_pos rfl]; rfl
    · rw [if_neg (by nofun)]; rfl
  unfold toteSummary
  rw [state]
  rfl

/-- Settles O59: the tote requests. -/
theorem toteRequests : Obligations.ToteRequests := by
  refine ⟨fun s => ⟨fun n m k hr => ⟨fun hbad => ?_, fun g hlegal hg => ?_⟩,
    fun n hr => ⟨fun hn => ?_, fun t ht => ?_⟩, fun n hr => ⟨fun hn => ?_, fun t ht => ?_⟩⟩,
    fun l n m s hr => ⟨fun hbad => ?_, fun t ht hm => ?_⟩⟩
  · exact exec_ready_refused _ .line s .range rfl hr (serveOpenTote_range n m k s hbad)
  · subst hg
    obtain ⟨hn, -, hk⟩ := hlegal
    refine ⟨fun hused => ?_, fun hunused hfull => ?_, fun t hunused ht hlow => ?_⟩
    · have found : (s.ttb.openFor? g).isSome = true := by
        rw [← Option.isNone_eq_false_iff, ← Bool.not_eq_true, Option.isNone_iff_eq_none, s.openFor?_none_iff]
        exact not_not.2 hused
      exact exec_ready_refused _ .line s .wrongState rfl hr
        ((serveOpenTote_legal n k g s hn hk).trans (if_pos found))
    · exact exec_ready_refused _ .line s .full rfl hr (by
        change serveOpenTote n g.code k s = _
        simp only [serveOpenTote_legal n k g s hn hk, (s.openFor?_none_iff g).2 hunused, State.firstFree?_none hfull]
        rfl)
    · have opens := serveOpenTote_opens n k g s t hn hk hunused ht hlow
      have output := ((serveOpenTote_serves s (.openTote n g.code k) n g.code k).kept (by rw [opens]; nofun)).output .line
      rw [opens] at output
      exact exec_ready_now _ .line s _ .done _ rfl hr opens output
  · exact exec_ready_refused _ .line s .range rfl hr (by
      change serveCloseTote n s = _; simp only [serveCloseTote, toteOf?_none hn])
  · subst ht
    refine ⟨fun hother => ?_, fun b hb => ⟨fun hres => ?_, fun hnone => ?_⟩⟩
    · refine exec_ready_refused _ .line s .wrongState rfl hr ?_
      change serveCloseTote t.val s = _
      simp only [serveCloseTote, toteOf?_val]
    · have busy : b.reserved ≠ 0 := mt b.reserved_eq_zero.1 (not_not.2 hres)
      exact exec_ready_refused _ .line s .busy rfl hr
        (by change serveCloseTote t.val s = _; simp only [serveCloseTote, toteOf?_val, hb, if_pos busy])
    · rw [← b.filled_eq hnone]
      exact exec_ready_now _ .line s _ .done _ rfl hr
        (by change serveCloseTote t.val s = _; simp only [serveCloseTote, toteOf?_val, hb, b.reserved_eq_zero.2 hnone]; rfl) rfl
  · exact exec_ready_refused _ .line s .range rfl hr (by
      change serveReleaseTote n s = _; simp only [serveReleaseTote, toteOf?_none hn])
  · subst ht
    refine ⟨fun hother => ?_, fun b hb => ?_⟩
    · refine exec_ready_refused _ .line s .wrongState rfl hr ?_
      change serveReleaseTote t.val s = _
      simp only [serveReleaseTote, toteOf?_val]
    · exact exec_ready_now _ .line s _ .done _ rfl hr
        (by change serveReleaseTote t.val s = _; simp only [serveReleaseTote, toteOf?_val, hb]; rfl) rfl
  · refine exec_ready_refused _ l s .range rfl hr ?_
    change serveReadTote n m s = _
    rcases hbad with hn | hm
    · simp only [serveReadTote, toteOf?_none hn]
    · simp only [serveReadTote, natIn?_out (.inr hm)]
      cases toteOf? n <;> rfl
  · subst ht
    have reads {p : List Byte} (h : serveReadTote t.val m s = (s, .done p)) :
        exec (.readTote l t.val m) s = .next (s.answered l (.readTote l t.val m) .done p) :=
      exec_ready_now _ l s s .done p rfl hr h rfl
    refine ⟨fun hfree => ?_, fun b hb => ⟨fun h0 => ?_, fun h1 hlong => ?_, fun h1 hp => ?_, fun i h1 hp => ?_,
      fun e h1 hp hserial => ?_⟩⟩
    · exact exec_ready_refused _ l s .wrongState rfl hr
        (by change serveReadTote t.val m s = _; simp only [serveReadTote, toteOf?_val, natIn?_in ⟨Nat.zero_le m, hm⟩, hfree]; rfl)
    · exact reads ((serveReadTote_body t m s b hm hb).trans ((if_pos h0).trans
        (congrArg (fun p => (s, Reply.done p)) (toteSummary_eq t _ b hb))))
    · refine exec_ready_refused _ l s .range rfl hr ?_
      change serveReadTote t.val m s = _
      rw [serveReadTote_body t m s b hm hb, if_neg (by omega), List.getElem?_eq_none (by omega)]
    · exact reads (serveReadTote_position t m s b _ hm hb h1 hp)
    · exact reads (serveReadTote_position t m s b _ hm hb h1 hp)
    · have whole : e.characters = e.serial.getD [] := by
        refine List.take_of_length_le ?_
        cases hs : e.serial with
        | none => exact Nat.zero_le _
        | some cs => exact hserial cs hs
      refine ⟨(List.range (20 - e.characters.length)).map
        (Config.unusedSerialByte (e.head t m ++ e.characters ++ e.data)), by simp [whole], ?_⟩
      refine reads ((serveReadTote_position t m s b _ hm hb h1 hp).trans ?_)
      simp only [positionEntry, FilledEntry.bytes, FilledEntry.head, FilledEntry.data, stampBytes, whole, List.append_assoc]
      rfl

end Sys2Proof.Machine
end

section
/-! Results as bytes: the pieces of a result that stand at their offsets (R6), and flags as bits. -/

namespace Sys2Proof.Machine

/-! ### Pieces at their offsets -/

/-- The bytes `q` stand in `p` from offset `n` on. -/
def StandsAt (p : List Byte) (n : Nat) (q : List Byte) : Prop := (p.drop n).take q.length = q

/-- Each piece stands at the sum of the lengths before it. -/
theorem standsAt_flatten (ps : List (List Byte)) : ∀ (ns : List Nat) (k : Nat) (q : List Byte),
    ps.map List.length = ns → ps[k]? = some q → StandsAt ps.flatten (ns.take k).sum q := by
  induction ps with
  | nil => intro ns k q _ hq; cases hq
  | cons p ps ih =>
    rintro ns k q rfl hq
    cases k with
    | zero => cases hq; simp [StandsAt]
    | succ k =>
      rw [List.map_cons, List.take_succ_cons, List.sum_cons, List.flatten_cons, StandsAt, List.drop_length_add_append]
      exact ih _ k q rfl hq

theorem StandsAt.getElem? {p q : List Byte} {n : Nat} (h : StandsAt p n q) {k : Nat} (hk : k < q.length) :
    p[n + k]? = q[k]? :=
  calc p[n + k]? = (p.drop n)[k]? := List.getElem?_drop.symm
    _ = ((p.drop n).take q.length)[k]? := (List.getElem?_take_of_lt hk).symm
    _ = q[k]? := congrArg (·[k]?) h

/-- The byte at an offset. -/
theorem StandsAt.byte {p : List Byte} {n : Nat} {x : Byte} (h : StandsAt p n [x]) : p[n]? = some x :=
  h.getElem? (k := 0) Nat.one_pos

/-! ### Flags as bits -/

theorem testBit_bitsNat (bits : List Bool) : ∀ k : Nat, (bitsNat bits).testBit k = (bits[k]?).getD false := by
  induction bits with
  | nil => intro k; simp [bitsNat]
  | cons b bits ih =>
    intro k
    change ((if b then 1 else 0) + 2 * bitsNat bits).testBit k = _
    cases k with
    | zero => cases b <;> simp [Nat.testBit_zero]
    | succ k =>
      have half : ((if b then 1 else 0) + 2 * bitsNat bits) / 2 = bitsNat bits := by split <;> omega
      rw [Nat.testBit_succ, half, ih k]
      rfl

theorem bitsNat_lt (bits : List Bool) : bitsNat bits < 2 ^ bits.length := by
  induction bits with
  | nil => exact Nat.one_pos
  | cons b bits ih =>
    change (if b then 1 else 0) + 2 * bitsNat bits < 2 ^ (bits.length + 1)
    rw [Nat.pow_succ]
    split <;> omega

/-- The bits of a flag byte. -/
theorem getLsbD_bitsByte (bits : List Bool) (k : Nat) (hk : k < 8) :
    (bitsByte bits).getLsbD k = (bits[k]?).getD false := by
  change (BitVec.ofNat 8 (bitsNat bits)).getLsbD k = _
  rw [BitVec.getLsbD_ofNat, testBit_bitsNat, decide_eq_true hk, Bool.true_and]

/-- The bits of a mark field. -/
theorem testBit_be16_bitsNat (bits : List Bool) (h : bits.length ≤ 16) (k : Nat) :
    (beNat (be16 (bitsNat bits))).testBit k = (bits[k]?).getD false := by
  have fits : fits16 (bitsNat bits) = true :=
    decide_eq_true ((bitsNat_lt bits).trans_le (Nat.pow_le_pow_right (by decide) h))
  rw [beNat_be16 fits, testBit_bitsNat]

/-- The flags of a table, in order. -/
theorem getElem?_map_toList {α β : Type} {n : Nat} (v : Vector α n) (f : α → β) (i : Fin n) :
    (v.toList.map f)[i.val]? = some (f (tget v i)) := by
  simp [tget]

theorem getElem?_map_finRange {β : Type} {n : Nat} (f : Fin n → β) (i : Fin n) :
    ((List.finRange n).map f)[i.val]? = some (f i) := by
  simp

/-! ### The clock, a stored record, the store (R15, R135, R136) -/

/-- The pieces of READ STORE's result. -/
def storePieces (q : Rst) : List (List Byte) :=
  [allBlocks.map fun b => byteOf (tget q.blocks b).state.code, allBlocks.map fun b => flagByte (tget q.blocks b).locked,
    allBlocks.map fun b => byteOf (tget q.blocks b).refs, [byteOf q.mode.code, flagByte q.lockOverride, flagByte q.priority],
    runningBytes q.running, suspendedBytes q.suspended, errorBytes q.error, [flagByte q.staging.header.isSome],
    be16 (bitsNat (q.staging.steps.toList.map Option.isSome)), [bitsByte (q.staging.limits.toList.map Option.isSome)]]

theorem storePieces_flatten (q : Rst) : q.result = (storePieces q).flatten := by
  simp only [storePieces, Rst.result, stagingBytes, List.flatten_cons, List.flatten_nil, List.append_assoc, List.append_nil,
    List.nil_append, List.cons_append]

theorem storePieces_lengths (q : Rst) : (storePieces q).map List.length = [32, 32, 32, 3, 5, 3, 3, 1, 2, 1] := by
  have running : (runningBytes q.running).length = 5 := by cases q.running <;> rfl
  have suspended : (suspendedBytes q.suspended).length = 3 := by rcases q.suspended with _ | _ | _ <;> rfl
  have error : (errorBytes q.error).length = 3 := by cases q.error <;> rfl
  simp only [storePieces, List.map_cons, List.map_nil, List.length_map, running, suspended, error]
  rfl

theorem storeResult_piece (q : Rst) (k : Nat) (b : List Byte) (h : (storePieces q)[k]? = some b) :
    StandsAt q.result (([32, 32, 32, 3, 5, 3, 3, 1, 2, 1] : List Nat).take k).sum b := by
  rw [storePieces_flatten]; exact standsAt_flatten _ _ k b (storePieces_lengths q) h

theorem readBusy_iff (q : Rst) (b : BlockNo) :
    q.readBusy b = true ↔ ∃ o, q.running = some o ∧ (o.work = .lock b ∨ ∃ t k f, o.work = .clear t k f) := by
  unfold Rst.readBusy
  rcases q.running with _ | ⟨work, _, _, _⟩
  · simp
  · cases work with
    | program _ _ | erase _ | blankCheck _ _ => simp
    | lock t => simp
    | clear t k f => exact ⟨fun _ => ⟨_, rfl, .inr ⟨t, k, f, rfl⟩⟩, fun _ => rfl⟩

/-- An optional field's bytes: its presence, then its value where it is present. -/
theorem optFieldBytes_eq (seed place : Nat) (v : Option Nat) :
    ∃ n, optFieldBytes seed place v = flagByte v.isSome :: be16 n ∧ ∀ t ∈ v, n = t := by
  cases v with
  | none => exact ⟨_, rfl, nofun⟩
  | some t => exact ⟨t, rfl, fun _ h => Option.some.inj h⟩

/-- The rows of the stage list. -/
theorem stagesBytes_eq (seed : Nat) (es : List StageEntry) : ∀ i,
    stagesBytes seed i es = (es.mapIdx fun k e => e.bytes seed (i + k)).flatten := by
  induction es with
  | nil => intro i; rfl
  | cons e es ih =>
    intro i
    rw [stagesBytes, ih (i + 1), List.mapIdx_cons, List.flatten_cons]
    simp only [Nat.add_zero, Nat.add_assoc, Nat.add_comm 1]

/-- A stage row, byte by byte. -/
theorem stageEntry_bytes_spec (e : StageEntry) (seed k : Nat) :
    let row := e.bytes seed k
    row.length = 14 ∧ row.take 3 = [byteOf e.kind.code, flagByte e.sensitive, flagByte e.suspendable] ∧
      row[3]? = some (flagByte e.target.isSome) ∧ (∀ t ∈ e.target, (row.drop 4).take 2 = be16 t) ∧
      (row.drop 6).take 3 = [byteOf e.mode.code, byteOf e.profile.val, flagByte e.limit.isSome] ∧
      (∀ t ∈ e.limit, (row.drop 9).take 2 = be16 t) ∧ row[11]? = some (flagByte e.maxTemp.isSome) ∧
      ∀ x ∈ e.maxTemp, row.drop 12 = be16 (twosOf 16 x) := by
  obtain ⟨t, ht, target⟩ := optFieldBytes_eq seed (3 * k) e.target
  obtain ⟨d, hd, limit⟩ := optFieldBytes_eq seed (3 * k + 1) e.limit
  obtain ⟨x, hx, maxTemp⟩ := optFieldBytes_eq seed (3 * k + 2) (e.maxTemp.map (twosOf 16))
  rw [Option.isSome_map] at hx
  rw [StageEntry.bytes, ht, hd, hx]
  refine ⟨rfl, rfl, rfl, fun v hv => ?_, rfl, fun v hv => ?_, rfl, fun v hv => ?_⟩
  · rw [← target v hv]; rfl
  · rw [← limit v hv]; rfl
  · rw [← maxTemp _ (Option.mem_map_of_mem _ hv)]; rfl

theorem flagByte_eq (b : Bool) : flagByte b = if b then 1#8 else 0#8 := rfl

theorem beNat_two_lt (p q : Byte) : beNat [p, q] < 65536 := by
  have := p.isLt
  have := q.isLt
  simp only [beNat, List.foldl_cons, List.foldl_nil]
  omega

/-- Settles O55: READ CLOCK, READ RECIPE and READ STORE. -/
theorem clockAndStoreReads : Obligations.ClockAndStoreReads := by
  intro s
  refine ⟨fun l hr => exec_ready_now _ l s s .done _ rfl hr rfl rfl, fun n m hr => ?_, fun hr => ?_⟩
  · have refused {k : RespCode} (hk : k.success = false) (h : serveReadRecipe n m s = (s, .refuse k)) :
        exec (.readRecipe n m) s = .next (s.clearOverride.answered .line (.readRecipe n m) k []) :=
      (exec_request _ .line s rfl).trans (congrArg _ (s.storeRequest_refused _ _ k hk hr h))
    refine ⟨fun hbad => refused rfl ?_, fun b hb hm => ?_⟩
    · unfold serveReadRecipe
      rcases hbad with hn | hm
      · rw [blockOf?_none hn]
      · rw [natIn?_out (.inr hm)]
        cases blockOf? n <;> rfl
    subst hb
    have reads : serveReadRecipe b.val m s = if s.rst.readBusy b then (s, .refuse .busy)
        else match (s.block b).written? with
          | none => (s, .refuse .wrongState)
          | some r => ({ s with freeSeed := s.freeSeed + 1 }, .done (recipePart s.freeSeed m b (s.block b) r)) := by
      unfold serveReadRecipe
      rw [blockOf?_val, natIn?_in ⟨Nat.zero_le m, Nat.le_of_lt_succ hm⟩] <;> rfl
    refine ⟨fun hbusy => refused rfl ?_, fun hidle hw => refused rfl ?_, fun r hidle hw => ?_⟩
    · rw [reads, if_pos ((readBusy_iff ..).2 hbusy)]
    · rw [reads, if_neg (mt (readBusy_iff ..).1 hidle), hw]
    · rw [if_neg (mt (readBusy_iff ..).1 hidle), hw] at reads
      have answers := (exec_request (.readRecipe b.val m) .line s rfl).trans
        (congrArg _ (State.storeRequest_now _ _ _ _ .done _ rfl hr reads rfl))
      have hcases : m = 0 ∨ m = 1 ∨ m = 2 := by omega
      rcases hcases with rfl | rfl | rfl
      · exact ⟨_, answers, fun _ => rfl, nofun, nofun⟩
      · refine ⟨_, answers, nofun, fun _ => ⟨r.stages.mapIdx fun k e => e.bytes s.freeSeed k, ?_, ?_, fun k row e hrow he => ?_⟩,
          nofun⟩
        · rw [stagesBytes_eq]; simp only [Nat.zero_add]; rfl
        · exact List.length_mapIdx
        · rw [List.getElem?_mapIdx, he] at hrow
          cases hrow
          exact stageEntry_bytes_spec e s.freeSeed k
      · exact ⟨_, answers, nofun, nofun, fun _ => rfl⟩
  · refine ⟨s.rst.result, (exec_request .readStore .line s rfl).trans
      (congrArg _ (State.storeRequest_now s s _ _ .done _ rfl hr rfl rfl)), ?_, fun b => ⟨?_, ?_, ?_⟩, ?_, fun h => ?_,
      fun o h => ?_, ?_, ?_, ?_, fun k => ?_, fun k bits hbits => ?_⟩
    · rw [storePieces_flatten, List.length_flatten, storePieces_lengths]; rfl
    · have state := (storeResult_piece s.rst 0 _ rfl).getElem? (k := b.val) (by simp [allBlocks])
      change s.rst.result[0 + b.val]? = _ at state
      rw [Nat.zero_add] at state
      exact state.trans (getElem?_map_finRange _ b)
    · exact ((storeResult_piece s.rst 1 _ rfl).getElem? (k := b.val) (by simp [allBlocks])).trans
        (getElem?_map_finRange _ b)
    · exact ((storeResult_piece s.rst 2 _ rfl).getElem? (k := b.val) (by simp [allBlocks])).trans
        (getElem?_map_finRange _ b)
    · exact storeResult_piece s.rst 3 _ rfl
    · have piece := storeResult_piece s.rst 4 _ rfl
      rw [h] at piece
      exact piece
    · have piece := storeResult_piece s.rst 4 _ rfl
      rw [h] at piece
      refine piece.trans ?_
      change [1#8, byteOf o.work.code, byteOf ((o.work.target?.map (·.val)).getD 255), flagByte o.nested,
        byteOf o.requestCode] = _
      cases o.work.target? <;> rfl
    · have piece := storeResult_piece s.rst 5 _ rfl
      rcases hs : s.rst.suspended with _ | _ | _ <;> rw [hs] at piece <;> exact piece
    · have piece := storeResult_piece s.rst 6 _ rfl
      rcases he : s.rst.error with _ | ⟨_, _⟩ <;> rw [he] at piece <;> exact piece
    · exact (storeResult_piece s.rst 7 _ rfl).byte
    · have piece := storeResult_piece s.rst 8 _ rfl
      change (s.rst.result.drop 111).take 2 = _ at piece
      rw [piece, testBit_be16_bitsNat _ (by simp), getElem?_map_toList]
      rfl
    · cases hbits.symm.trans (storeResult_piece s.rst 9 _ rfl).byte
      rw [getLsbD_bitsByte _ _ k.isLt, getElem?_map_toList]
      rfl

end Sys2Proof.Machine
end

section
/-! READ SLOT (R16, R75): the 128 bytes of Table 1-8 as pieces at their offsets. -/

namespace Sys2Proof.Machine

/-- The pieces of READ SLOT's result, in the order of Table 1-8. -/
def SlotRecord.pieces (r : SlotRecord) (i : Slot) (holds : Nat) : List (List Byte) :=
  [[byteOf i.val, byteOf r.state.code, flagByte r.present, flagByte r.closed], [r.presentFields],
    [flagByte r.ungranted, byteOf r.exit.code], serialBytes r.serial, recipeBytes r.recipe, [byteOf r.stage],
    contextBytes r.context, [byteOf r.phase.code, byteOf r.quiet.code, byteOf holds],
    be32 ((r.context.bind (·.target)).getD 0), be32 r.credit ++ be32 r.total, optStampBytes (r.context.bind (·.deadline)),
    be16 (((r.context.bind (·.maxTemp)).map (twosOf 16)).getD 0), be16 (bitsNat (r.marks.map (·.overtime))),
    be16 (bitsNat (r.marks.map (·.disturbed))), [bitsByte (r.measures.toList.map Option.isSome)]] ++
  r.measures.toList.map (fun v => be32 (v.getD 0)) ++
  [optGradeBytes r.grade, faultBytes r.fault, be16 (r.patchGen.getD 0),
    optStampBytes r.loadedAt ++ optStampBytes r.startedAt ++ optStampBytes r.finishedAt]

/-- The lengths of the pieces. -/
def snapshotLengths : List Nat :=
  [4, 1, 2, 21, 4, 1, 5, 3, 4, 8, 6, 2, 2, 2, 1] ++ List.replicate 8 4 ++ [3, 7, 2, 18]

theorem SlotRecord.snapshot_eq (r : SlotRecord) (i : Slot) (holds : Nat) :
    r.snapshot i holds = (r.pieces i holds).flatten := by
  unfold pieces snapshot
  simp only [List.flatMap_def, List.flatten_cons, List.flatten_nil, List.flatten_append, List.append_assoc,
    List.append_nil, List.nil_append, List.cons_append]

theorem length_optStampBytes (t : Option RackTime) : (optStampBytes t).length = 6 := by cases t <;> rfl

theorem length_serialBytes (cs : Option (List Byte)) : (serialBytes cs).length = 21 := by
  simp [serialBytes]

theorem SlotRecord.pieces_lengths (r : SlotRecord) (i : Slot) (holds : Nat) :
    (r.pieces i holds).map List.length = snapshotLengths := by
  have recipe : (recipeBytes r.recipe).length = 4 := by cases r.recipe <;> rfl
  have context : (contextBytes r.context).length = 5 := by cases r.context <;> rfl
  have grade : (optGradeBytes r.grade).length = 3 := by cases r.grade <;> rfl
  have fault : (faultBytes r.fault).length = 7 := by rcases r.fault with _ | ⟨_, _⟩ <;> rfl
  have measures : (r.measures.toList.map fun v => be32 (v.getD 0)).map List.length = List.replicate 8 4 := by
    rw [List.map_map]
    exact List.eq_replicate_iff.2 ⟨by simp, by rintro n hn; obtain ⟨v, -, rfl⟩ := List.mem_map.1 hn; rfl⟩
  simp only [pieces, List.map_append, measures, List.map_cons, List.map_nil, List.length_append, length_serialBytes, recipe,
    context, grade, fault, length_optStampBytes]
  rfl

/-- Each piece stands at its offset. -/
theorem SlotRecord.snapshot_piece (r : SlotRecord) (i : Slot) (holds k : Nat) (b : List Byte)
    (h : (r.pieces i holds)[k]? = some b) : StandsAt (r.snapshot i holds) (snapshotLengths.take k).sum b := by
  rw [r.snapshot_eq]; exact standsAt_flatten _ _ k b (r.pieces_lengths i holds) h

/-- The measure values are the pieces from the sixteenth on. -/
theorem SlotRecord.pieces_measure (r : SlotRecord) (i : Slot) (holds : Nat) (m : MeasureId) :
    (r.pieces i holds)[15 + m.val]? = some (be32 ((tget r.measures m).getD 0)) := by
  unfold pieces
  rw [List.append_assoc, List.getElem?_append_right (by simp),
    List.getElem?_append_left (by simp only [List.length_map, Vector.length_toList]; have := m.isLt; simp)]
  simp only [List.length_cons, List.length_nil, Nat.reduceAdd, Nat.add_sub_cancel_left]
  exact getElem?_map_toList r.measures (fun v => be32 (v.getD 0)) m

theorem snapshotLengths_measure (m : MeasureId) : (snapshotLengths.take (15 + m.val)).sum = 66 + 4 * m.val := by
  revert m; decide

/-- The pieces after the measure values. -/
theorem SlotRecord.pieces_tail (r : SlotRecord) (i : Slot) (holds k : Nat) : (r.pieces i holds)[23 + k]? =
    [optGradeBytes r.grade, faultBytes r.fault, be16 (r.patchGen.getD 0),
      optStampBytes r.loadedAt ++ optStampBytes r.startedAt ++ optStampBytes r.finishedAt][k]? := by
  unfold pieces
  rw [List.getElem?_append_right (by simp)]
  simp

theorem serialBytes_some {cs : List Byte} (h : cs.length ≤ 20) :
    serialBytes (some cs) = byteOf cs.length :: cs ++ List.replicate (20 - cs.length) 0#8 := by
  simp only [serialBytes, Option.getD_some, List.take_of_length_le h]

/-- Settles O54: READ SLOT's bytes, offset by offset. -/
theorem readSlotShowsTheRecord : Obligations.ReadSlotShowsTheRecord := by
  intro l n s hr
  refine ⟨fun hn => exec_ready_refused _ l s .range rfl hr (by
      change serveReadSlot n s = _; simp only [serveReadSlot, slotOf?_none hn]),
    fun i hi => ⟨(s.slot i).snapshot i (s.holdCount i), ?_, ?_, ?_⟩⟩
  · subst hi
    exact exec_ready_now _ l s s .done _ rfl hr
      (by change serveReadSlot i.val s = _; simp only [serveReadSlot, slotOf?_val]; rfl) rfl
  · rw [SlotRecord.snapshot_eq, List.length_flatten, SlotRecord.pieces_lengths]; rfl
  dsimp only
  generalize hrec : s.slot i = r
  have piece (k : Nat) (b : List Byte) (h : (r.pieces i (s.holdCount i))[k]? = some b) :
      StandsAt (r.snapshot i (s.holdCount i)) (snapshotLengths.take k).sum b := r.snapshot_piece i (s.holdCount i) k b h
  have tail (k : Nat) (b : List Byte) (h : [optGradeBytes r.grade, faultBytes r.fault, be16 (r.patchGen.getD 0),
      optStampBytes r.loadedAt ++ optStampBytes r.startedAt ++ optStampBytes r.finishedAt][k]? = some b) :
      StandsAt (r.snapshot i (s.holdCount i)) (snapshotLengths.take (23 + k)).sum b :=
    piece _ b ((r.pieces_tail i (s.holdCount i) k).trans h)
  have serial := piece 3 _ rfl
  have recipe := piece 4 _ rfl
  have context := piece 6 _ rfl
  have target := piece 8 _ rfl
  have deadline := piece 10 _ rfl
  have maxTemp := piece 11 _ rfl
  have grade := tail 0 _ rfl
  have fault := tail 1 _ rfl
  refine ⟨piece 0 _ rfl, fun bits hbits => ?_, piece 2 _ rfl, fun cs hcs hlen => ?_, fun hcs => ?_, fun ref href => ?_,
    fun href => ?_, piece 5 _ rfl, fun c hc => ?_, fun hc => ?_, piece 7 _ rfl, piece 9 _ rfl, fun hmarks k hk => ?_,
    fun m => ⟨?_, fun bits hbits => ?_⟩, fun g hg => ?_, fun hg => ?_, fun k t hk => ?_, fun hk => ?_, tail 2 _ rfl, tail 3 _ rfl⟩
  · cases hbits.symm.trans (piece 1 _ rfl).byte
    have bit (k : Nat) (hk : k < 8) := getLsbD_bitsByte [r.serial.isSome, r.recipe.isSome, r.context.isSome,
      (r.context.bind (·.target)).isSome, (r.context.bind (·.maxTemp)).isSome, r.grade.isSome, r.fault.isSome,
      r.patchGen.isSome] k hk
    exact ⟨bit 0 (by decide), bit 1 (by decide), bit 2 (by decide), bit 3 (by decide), bit 4 (by decide), bit 5 (by decide),
      bit 6 (by decide), bit 7 (by decide)⟩
  · rw [hcs, serialBytes_some hlen] at serial
    exact serial
  · rw [hcs] at serial
    exact serial
  · rw [href] at recipe
    exact recipe
  · rw [href] at recipe
    exact recipe
  · rw [hc] at context target deadline maxTemp
    refine ⟨context, target, deadline, fun hnone => ?_, fun x hx hlow hhigh => ?_⟩
    · rw [Option.bind_some, hnone] at maxTemp
      exact maxTemp
    · rw [Option.bind_some, hx] at maxTemp
      change (List.drop 59 _).take 2 = be16 (twosOf 16 x) at maxTemp
      rw [maxTemp]
      exact signedOf_be16 (decide_eq_true ⟨hlow, hhigh⟩)
  · rw [hc] at context target deadline maxTemp
    exact ⟨context, target, deadline, maxTemp⟩
  · have overtime := piece 12 _ rfl
    have disturbed := piece 13 _ rfl
    change (List.drop 61 _).take 2 = _ at overtime
    change (List.drop 63 _).take 2 = _ at disturbed
    rw [overtime, disturbed, testBit_be16_bitsNat _ (by simpa using hmarks), testBit_be16_bitsNat _ (by simpa using hmarks),
      List.getElem?_map, List.getElem?_map]
    exact ⟨rfl, rfl⟩
  · have measure := piece (15 + m.val) _ (r.pieces_measure i (s.holdCount i) m)
    have place : 70 + 4 * m.val - 4 = 66 + 4 * m.val := by omega
    rw [snapshotLengths_measure] at measure
    rw [place]
    exact measure
  · cases hbits.symm.trans (piece 14 _ rfl).byte
    rw [getLsbD_bitsByte _ _ m.isLt, getElem?_map_toList]
    rfl
  · rw [hg] at grade
    exact grade
  · rw [hg] at grade
    exact grade
  · rw [hk] at fault
    exact fault
  · rw [hk] at fault
    exact fault

end Sys2Proof.Machine
end

section
/-! What a link holds is seen by no block (log entry 5): a request is served the same whatever its link holds. The operations of
the blocks commute with the replacement of a held request. -/

namespace Sys2Proof.Machine

/-- The interface of link `m`, with its held request replaced where `m` is the link `l`. -/
def LinkState.reheld (l : Link) (x : Option Held) (m : Link) (ls : LinkState) : LinkState :=
  if m = l then { ls with held := x } else ls

/-- The state with the held request of one link replaced. -/
def State.reheld (s : State) (l : Link) (x : Option Held) : State :=
  { s with testLink := s.testLink.reheld l x .test, handlerLink := s.handlerLink.reheld l x .handler,
           lineLink := s.lineLink.reheld l x .line }

theorem State.hold_eq_reheld (s : State) (l : Link) (x : Option Held) : s.hold l x = s.reheld l x := by cases l <;> rfl

theorem State.link_reheld (s : State) (l m : Link) (x : Option Held) :
    (s.reheld l x).link m = (s.link m).reheld l x m := by cases m <;> rfl

/-- A notice joins a link's set whatever the link holds. -/
theorem LinkState.reheld_post (ls : LinkState) (l m : Link) (x : Option Held) (k : NoticeKind) (n : Nat) :
    (ls.reheld l x m).post k n = (ls.post k n).reheld l x m := by
  unfold LinkState.reheld
  split
  · by_cases h : ls.level k = 0 ∨ (k, n) ∈ ls.notices
    · rw [show ls.post k n = ls from if_pos h]
      exact if_pos h
    · rw [show ls.post k n = _ from if_neg h]
      exact if_neg h
  · rfl

namespace State

variable (s : State) (l : Link) (x : Option Held)

/-! ### What each accessor reads -/

@[simp] theorem reheld_rck : (s.reheld l x).rck = s.rck := rfl
@[simp] theorem reheld_sif : (s.reheld l x).sif = s.sif := rfl
@[simp] theorem reheld_psq : (s.reheld l x).psq = s.psq := rfl
@[simp] theorem reheld_slots : (s.reheld l x).slots = s.slots := rfl
@[simp] theorem reheld_qac : (s.reheld l x).qac = s.qac := rfl
@[simp] theorem reheld_tau : (s.reheld l x).tau = s.tau := rfl
@[simp] theorem reheld_rst : (s.reheld l x).rst = s.rst := rfl
@[simp] theorem reheld_pcu : (s.reheld l x).pcu = s.pcu := rfl
@[simp] theorem reheld_ttb : (s.reheld l x).ttb = s.ttb := rfl
@[simp] theorem reheld_fetch : (s.reheld l x).fetch = s.fetch := rfl
@[simp] theorem reheld_freeSeed : (s.reheld l x).freeSeed = s.freeSeed := rfl
@[simp] theorem reheld_slot (i : Slot) : (s.reheld l x).slot i = s.slot i := rfl
@[simp] theorem reheld_mailOf (i : Slot) : (s.reheld l x).mailOf i = s.mailOf i := rfl
@[simp] theorem reheld_block (b : BlockNo) : (s.reheld l x).block b = s.block b := rfl
@[simp] theorem reheld_tote (t : ToteNo) : (s.reheld l x).tote t = s.tote t := rfl
@[simp] theorem reheld_waitQueue (g : Bin) : (s.reheld l x).waitQueue g = s.waitQueue g := rfl
@[simp] theorem reheld_access (r : Fin 2) : (s.reheld l x).access r = s.access r := rfl
@[simp] theorem reheld_holdCount (i : Slot) : (s.reheld l x).holdCount i = s.holdCount i := rfl
@[simp] theorem reheld_now : (s.reheld l x).now = s.now := rfl

/-! ### The shared operations -/

theorem reheld_linkPost (m : Link) (k : NoticeKind) (n : Nat) :
    (s.reheld l x).linkPost m k n = (s.linkPost m k n).reheld l x m := by
  unfold State.linkPost
  rw [State.link_reheld]
  split
  · exact LinkState.reheld_post ..
  · rfl

@[simp] theorem reheld_post (k : NoticeKind) (n : Nat) : (s.reheld l x).post k n = (s.post k n).reheld l x := by
  unfold State.post
  rw [reheld_linkPost, reheld_linkPost, reheld_linkPost]
  rfl

@[simp] theorem reheld_setMail (i : Slot) (m : Mail) : (s.reheld l x).setMail i m = (s.setMail i m).reheld l x := rfl

@[simp] theorem reheld_putSlot (i : Slot) (r : SlotRecord) :
    (s.reheld l x).putSlot i r = (s.putSlot i r).reheld l x := rfl

@[simp] theorem reheld_giveOrder (i : Slot) (o : PowerOrder) :
    (s.reheld l x).giveOrder i o = (s.giveOrder i o).reheld l x := rfl

@[simp] theorem reheld_dropOrder (i : Slot) : (s.reheld l x).dropOrder i = (s.dropOrder i).reheld l x := rfl

@[simp] theorem reheld_compareDeadlines : (s.reheld l x).compareDeadlines = s.compareDeadlines.reheld l x := by
  simp only [State.compareDeadlines, reheld_rck, reheld_now, reheld_mailOf]
  rfl

@[simp] theorem reheld_arm (i : Slot) (d : Option Deadline) : (s.reheld l x).arm i d = (s.arm i d).reheld l x := rfl

@[simp] theorem reheld_clearOverride : (s.reheld l x).clearOverride = s.clearOverride.reheld l x := rfl

@[simp] theorem reheld_setBlock (b : BlockNo) (k : RecipeBlock) :
    (s.reheld l x).setBlock b k = (s.setBlock b k).reheld l x := rfl

@[simp] theorem reheld_releaseRefOf (r : SlotRecord) : (s.reheld l x).releaseRefOf r = (s.releaseRefOf r).reheld l x := by
  unfold State.releaseRefOf; split <;> rfl

@[simp] theorem reheld_setNote (i : Slot) (n : Option (Nat × Nat)) :
    (s.reheld l x).setNote i n = (s.setNote i n).reheld l x := rfl

/-! ### TTB -/

@[simp] theorem reheld_setTote (t : ToteNo) (r : Tote) : (s.reheld l x).setTote t r = (s.setTote t r).reheld l x := rfl

@[simp] theorem reheld_setQueue (g : Bin) (q : List Slot) : (s.reheld l x).setQueue g q = (s.setQueue g q).reheld l x := rfl

@[simp] theorem reheld_reserve? (g : Bin) (i : Slot) :
    (s.reheld l x).reserve? g i = (s.reserve? g i).map (·.reheld l x) := by
  unfold State.reserve?
  rw [reheld_ttb]
  cases s.ttb.openFor? g with
  | none => rfl
  | some p =>
    change (p.2.lowestEmpty?.map _) = Option.map _ (p.2.lowestEmpty?.map _)
    rw [Option.map_map]
    refine congrArg (p.2.lowestEmpty?.map ·) (funext fun q => ?_)
    rw [reheld_slot, reheld_setTote, reheld_putSlot, reheld_post]
    rfl

@[simp] theorem reheld_stall (g : Bin) (i : Slot) : (s.reheld l x).stall g i = (s.stall g i).reheld l x := by
  unfold State.stall
  rw [reheld_waitQueue, reheld_setQueue, reheld_slot, reheld_putSlot, reheld_post]

@[simp] theorem reheld_dispatch (i : Slot) : (s.reheld l x).dispatch i = (s.dispatch i).reheld l x := by
  unfold State.dispatch
  rw [reheld_slot]
  split
  · next g _ =>
    rw [reheld_reserve?, reheld_stall]
    cases s.reserve? g.1 i <;> rfl
  · rfl

theorem reheld_serveQueue (g : Bin) (q : List Slot) : ∀ s : State, State.serveQueue g q (s.reheld l x) =
    ((State.serveQueue g q s).1.reheld l x, (State.serveQueue g q s).2) := by
  induction q with
  | nil => exact fun _ => rfl
  | cons i q ih =>
    intro s
    unfold State.serveQueue
    rw [reheld_setQueue, reheld_reserve?]
    cases (s.setQueue g q).reserve? g i with
    | none => rfl
    | some t => simp only [Option.map_some, ih t]

@[simp] theorem reheld_fillReservation (i : Slot) :
    (s.reheld l x).fillReservation i = (s.fillReservation i).reheld l x := by
  have entry : (s.reheld l x).entryFor i = s.entryFor i := rfl
  unfold State.fillReservation
  rw [reheld_ttb, entry]
  split
  · dsimp only
    split
    · rw [reheld_setTote, reheld_post]
    · rfl
  · rfl

/-! ### QAC -/

@[simp] theorem reheld_setAccess (r : Fin 2) (a : AccessRecord) :
    (s.reheld l x).setAccess r a = (s.setAccess r a).reheld l x := rfl

@[simp] theorem reheld_raiseHolds (z : List Slot) : (s.reheld l x).raiseHolds z = (s.raiseHolds z).reheld l x := by
  simp only [State.raiseHolds, reheld_qac, reheld_holdCount]
  rfl

@[simp] theorem reheld_lowerHolds (z : List Slot) : (s.reheld l x).lowerHolds z = (s.lowerHolds z).reheld l x := by
  simp only [State.lowerHolds, reheld_qac, reheld_holdCount, reheld_mailOf]
  rfl

@[simp] theorem reheld_askZone (z : List Slot) : (s.reheld l x).askZone z = (s.askZone z).reheld l x := by
  simp only [State.askZone, reheld_slot, reheld_mailOf]
  rfl

@[simp] theorem reheld_freeAccess (r : Fin 2) : (s.reheld l x).freeAccess r = (s.freeAccess r).reheld l x := by
  unfold State.freeAccess
  rw [reheld_access]
  split
  · rw [reheld_lowerHolds, reheld_setAccess]
  · rfl

@[simp] theorem reheld_endPending (r : Fin 2) (u : AccessUse) :
    (s.reheld l x).endPending r u = (s.endPending r u).reheld l x := by
  unfold State.endPending
  rw [reheld_freeAccess, reheld_post]

@[simp] theorem reheld_grant (r : Fin 2) (u : AccessUse) : (s.reheld l x).grant r u = (s.grant r u).reheld l x :=
  reheld_post (s.setAccess r _) l x _ _

@[simp] theorem reheld_zoneClear (z : List Slot) : (s.reheld l x).zoneClear z = s.zoneClear z := rfl
@[simp] theorem reheld_targetStands (u : AccessUse) : (s.reheld l x).targetStands u = s.targetStands u := rfl
@[simp] theorem reheld_halfServed (i : Slot) : (s.reheld l x).halfServed i = s.halfServed i := rfl
@[simp] theorem reheld_presenceServed (i : Slot) : (s.reheld l x).presenceServed i = s.presenceServed i := rfl
@[simp] theorem reheld_freeRecord? : (s.reheld l x).freeRecord? = s.freeRecord? := rfl
@[simp] theorem reheld_accessPlace (i : Slot) (a : Action) : (s.reheld l x).accessPlace i a = s.accessPlace i a := rfl

@[simp] theorem reheld_evaluate (r : Fin 2) : (s.reheld l x).evaluate r = (s.evaluate r).reheld l x := by
  unfold State.evaluate
  rw [reheld_access]
  split
  · simp only [reheld_zoneClear, reheld_targetStands, reheld_grant, reheld_endPending]
    split
    · split <;> rfl
    · rfl
  · rfl

@[simp] theorem reheld_takeAccess (r : Fin 2) (i : Slot) (a : Action) :
    (s.reheld l x).takeAccess r i a = (s.takeAccess r i a).reheld l x := by
  have pending (u : AccessUse) : (((s.reheld l x).setAccess r (.pending u)).raiseHolds u.zone).askZone u.zone =
      (((s.setAccess r (.pending u)).raiseHolds u.zone).askZone u.zone).reheld l x := by
    rw [reheld_setAccess, reheld_raiseHolds, reheld_askZone]
  exact (congrArg (·.evaluate r) (pending _)).trans (reheld_evaluate ..)

/-! ### SSQ -/

@[simp] theorem reheld_clearSlot (i : Slot) : (s.reheld l x).clearSlot i = (s.clearSlot i).reheld l x := by
  unfold State.clearSlot
  rw [reheld_slot, reheld_releaseRefOf]
  rfl

@[simp] theorem reheld_loadPlaced (i : Slot) : (s.reheld l x).loadPlaced i = (s.loadPlaced i).reheld l x := by
  unfold State.loadPlaced
  rw [reheld_slot]
  split
  · rw [reheld_putSlot, reheld_post]
    rfl
  · rfl

@[simp] theorem reheld_unloadPlaced (i : Slot) : (s.reheld l x).unloadPlaced i = (s.unloadPlaced i).reheld l x := by
  unfold State.unloadPlaced
  rw [reheld_slot]
  split
  · rw [reheld_fillReservation, reheld_clearSlot]
  · rfl

@[simp] theorem reheld_gradeSlot (i : Slot) (r : SlotRecord) (m : Option Limits) (n : Nat) :
    (s.reheld l x).gradeSlot i r m n = (s.gradeSlot i r m n).reheld l x := by
  unfold State.gradeSlot
  rw [reheld_releaseRefOf]
  rfl

@[simp] theorem reheld_gradeToSpinDown (i : Slot) (r : SlotRecord) (m : Option Limits) (n : Nat) :
    (s.reheld l x).gradeToSpinDown i r m n = (s.gradeToSpinDown i r m n).reheld l x := by
  unfold State.gradeToSpinDown
  rw [reheld_gradeSlot, reheld_giveOrder]

@[simp] theorem reheld_faulted (i : Slot) (k : FaultKind) : (s.reheld l x).faulted i k = s.faulted i k := rfl

/-! ### PSQ -/

theorem reheld_giveReports (o : PowerReport) (js : List Slot) : ∀ s : State,
    js.foldl (fun t i => t.giveReport i o) (s.reheld l x) = (js.foldl (fun t i => t.giveReport i o) s).reheld l x := by
  induction js with
  | nil => exact fun _ => rfl
  | cons i js ih => exact fun s => ih (s.giveReport i o)

@[simp] theorem reheld_lookAtQueue : (s.reheld l x).lookAtQueue = s.lookAtQueue.reheld l x :=
  reheld_giveReports l x .started _ { s with psq := (Psq.startAll s.rck.osc s.psq.queue s.psq).1 }

@[simp] theorem reheld_takeOutcome (i : Slot) (o : PowerOutcome) :
    (s.reheld l x).takeOutcome i o = (s.takeOutcome i o).reheld l x := by
  unfold State.takeOutcome
  dsimp only
  rw [reheld_slot]
  split
  · split <;> rfl
  · rfl

/-! ### RST -/

@[simp] theorem reheld_setRunning (o : Option Running) : (s.reheld l x).setRunning o = (s.setRunning o).reheld l x := rfl

@[simp] theorem reheld_invalidate (b : BlockNo) : (s.reheld l x).invalidate b = (s.invalidate b).reheld l x := by
  unfold State.invalidate
  rw [reheld_block]
  dsimp only
  split <;> rfl

@[simp] theorem reheld_answerFetch (f : Fetch) : (s.reheld l x).answerFetch f = (s.answerFetch f).reheld l x := by
  have result : (s.reheld l x).fetchResult f = s.fetchResult f := rfl
  unfold State.answerFetch
  rw [result]
  cases s.fetchResult f <;> rfl

@[simp] theorem reheld_answerWaiting : (s.reheld l x).answerWaiting = s.answerWaiting.reheld l x := by
  unfold State.answerWaiting
  rw [reheld_fetch]
  split
  · exact reheld_answerFetch ..
  · rfl

@[simp] theorem reheld_endRunning (o : Running) : (s.reheld l x).endRunning o = (s.endRunning o).reheld l x := by
  unfold State.endRunning
  dsimp only
  split
  · rw [reheld_setRunning, reheld_answerWaiting]
  · rfl

@[simp] theorem reheld_stopRunning : (s.reheld l x).stopRunning = s.stopRunning.reheld l x := by
  unfold State.stopRunning
  rw [reheld_rst]
  split
  · rfl
  · rw [reheld_endRunning, reheld_post]

@[simp] theorem reheld_stopSuspended : (s.reheld l x).stopSuspended = s.stopSuspended.reheld l x := by
  unfold State.stopSuspended
  rw [reheld_rst]
  split
  · rfl
  · exact reheld_post { s with rst := { s.rst with suspended := none } } l x _ _

end State

end Sys2Proof.Machine
end

section
/-! A request command on a busy link, on a wrong link and on a free link (log entry 5). On a free link a request is served as if
the link held it, since no service sees what the links hold. -/

namespace Sys2Proof.Machine

/-- What a service makes of its request, with the held request of one link replaced. -/
def reheldIn (l : Link) (x : Option Held) (p : State × Reply) : State × Reply := (p.1.reheld l x, p.2)

theorem reheldIn_ite {l : Link} {x : Option Held} {c : Prop} [Decidable c] {p q p' q' : State × Reply}
    (h : p = reheldIn l x p') (k : q = reheldIn l x q') :
    (if c then p else q) = reheldIn l x (if c then p' else q') := by
  split <;> assumption

/-- A service that does not see what the links hold: it takes the same branch, whose operations commute with `State.reheld`. -/
def HoldBlind (serve : State → State × Reply) : Prop :=
  ∀ (s : State) (l : Link) (x : Option Held), serve (s.reheld l x) = reheldIn l x (serve s)

/-! ### RCK, SIF and the links -/

theorem serveReadClock_holdBlind : HoldBlind serveReadClock := fun _ _ _ => rfl

theorem serveSetTime_holdBlind (a b : Nat) : HoldBlind (serveSetTime a b) := by
  intro s l x
  unfold serveSetTime
  repeat' first | refine reheldIn_ite ?_ ?_ | split
  all_goals rfl

theorem serveSetInputs_holdBlind (a b c : Nat) : HoldBlind (serveSetInputs a b c) := by
  intro s l x
  unfold serveSetInputs
  repeat' first | refine reheldIn_ite ?_ ?_ | split
  all_goals rfl

theorem serveRackReset_holdBlind : HoldBlind serveRackReset := fun _ _ _ => rfl

/-! ### PSQ -/

theorem serveSetPower_holdBlind (a b c : Nat) : HoldBlind (serveSetPower a b c) := by
  intro s l x
  unfold serveSetPower
  repeat' first | refine reheldIn_ite ?_ ?_ | split
  · next b u d _ _ _ =>
    exact congrArg (·, Reply.done [])
      (State.reheld_lookAtQueue { s with psq := { s.psq with budget := b, upTime := u, downTime := d } } l x)
  · rfl

theorem servePowerOff_holdBlind (n : Nat) : HoldBlind (servePowerOff n) := by
  intro s l x
  unfold servePowerOff
  repeat' first | refine reheldIn_ite ?_ ?_ | split
  all_goals rfl

/-! ### QAC -/

theorem serveAccessRequest_holdBlind (a b : Nat) : HoldBlind (serveAccessRequest a b) := by
  intro s l x
  unfold serveAccessRequest
  dsimp only [State.reheld_freeRecord?]
  repeat' first | refine reheldIn_ite ?_ ?_ | split
  any_goals rfl
  rw [State.reheld_takeAccess]
  rfl

theorem serveAccessCancel_holdBlind (n : Nat) : HoldBlind (serveAccessCancel n) := by
  intro s l x
  unfold serveAccessCancel
  repeat' first | refine reheldIn_ite ?_ ?_ | split
  · rfl
  · rw [State.reheld_freeAccess]
    rfl
  · rfl

theorem endAccess_reheld (s : State) (l : Link) (x : Option Held) (r : Fin 2) (u : AccessUse) (p o q : Bool) :
    (s.reheld l x).endAccess r u p o q = reheldIn l x (s.endAccess r u p o q) := by
  unfold State.endAccess
  repeat' first | refine reheldIn_ite ?_ ?_ | split
  any_goals rfl
  · rw [State.reheld_loadPlaced, State.reheld_freeAccess]
    rfl
  · rw [State.reheld_unloadPlaced, State.reheld_freeAccess]
    rfl
  · rw [State.reheld_freeAccess]
    rfl

theorem serveAccessDone_holdBlind (a b : Nat) : HoldBlind (serveAccessDone a b) := by
  intro s l x
  unfold serveAccessDone
  dsimp only [State.reheld_access]
  repeat' first | refine reheldIn_ite ?_ ?_ | split
  any_goals rfl
  exact endAccess_reheld ..

theorem serveQuiet_holdBlind (n : Nat) : HoldBlind (serveQuiet n) := by
  intro s l x
  unfold serveQuiet
  dsimp only [State.reheld_slot]
  repeat' first | refine reheldIn_ite ?_ ?_ | split
  all_goals rfl

theorem serveSetQuiet_holdBlind (a b c : Nat) : HoldBlind (serveSetQuiet a b c) := by
  intro s l x
  unfold serveSetQuiet
  repeat' first | refine reheldIn_ite ?_ ?_ | split
  all_goals rfl

/-! ### SSQ -/

theorem serveSetSerial_holdBlind (n : Nat) (cs : List Byte) : HoldBlind (serveSetSerial n cs) := by
  intro s l x
  unfold serveSetSerial
  repeat' first | refine reheldIn_ite ?_ ?_ | split
  all_goals rfl

theorem serveStart_holdBlind (n m : Nat) : HoldBlind (serveStart n m) := by
  intro s l x
  unfold serveStart
  repeat' first | refine reheldIn_ite ?_ ?_ | split
  all_goals rfl

theorem serveAdvance_holdBlind (n : Nat) : HoldBlind (serveAdvance n) := by
  intro s l x
  unfold serveAdvance
  dsimp only [State.reheld_slot]
  repeat' first | refine reheldIn_ite ?_ ?_ | split
  all_goals rfl

theorem serveMeasure_holdBlind (a b c : Nat) : HoldBlind (serveMeasure a b c) := by
  intro s l x
  unfold serveMeasure
  repeat' first | refine reheldIn_ite ?_ ?_ | split
  all_goals rfl

theorem serveFinish_holdBlind (n : Nat) : HoldBlind (serveFinish n) := by
  intro s l x
  unfold serveFinish
  dsimp only [State.reheld_slot]
  repeat' first | refine reheldIn_ite ?_ ?_ | split
  all_goals rfl

theorem serveAbort_holdBlind (a b : Nat) : HoldBlind (serveAbort a b) := by
  intro s l x
  unfold serveAbort
  repeat' first | refine reheldIn_ite ?_ ?_ | split
  · rw [State.reheld_faulted, State.reheld_pcu, State.reheld_gradeSlot]
    dsimp only
    rw [State.reheld_dispatch]
    rfl
  · rw [State.reheld_faulted, State.reheld_pcu, State.reheld_gradeToSpinDown]
    rfl
  · rfl
  · rfl

theorem serveReadSlot_holdBlind (n : Nat) : HoldBlind (serveReadSlot n) := by
  intro s l x
  unfold serveReadSlot
  repeat' first | refine reheldIn_ite ?_ ?_ | split
  all_goals rfl

/-! ### TAU -/

theorem serveSetScan_holdBlind (a b : Nat) : HoldBlind (serveSetScan a b) := by
  intro s l x
  unfold serveSetScan
  repeat' first | refine reheldIn_ite ?_ ?_ | split
  all_goals rfl

theorem serveSetProfile_holdBlind (a : Nat) (b : Int) (c : Nat) (fs : List Nat) :
    HoldBlind (serveSetProfile a b c fs) := by
  intro s l x
  have inUse (p : Fin 2) : (s.reheld l x).profileInUse p = s.profileInUse p := by
    simp only [State.profileInUse, State.reheld_slot]
  unfold serveSetProfile
  split
  · rw [inUse]
    exact reheldIn_ite rfl rfl
  · rfl

theorem serveSetOffset_holdBlind (a : Nat) (b : Int) : HoldBlind (serveSetOffset a b) := by
  intro s l x
  unfold serveSetOffset
  repeat' first | refine reheldIn_ite ?_ ?_ | split
  all_goals rfl

/-! ### RST -/

theorem serveStageHeader_holdBlind (a b : Nat) (tag : List Byte) (c : Nat) : HoldBlind (serveStageHeader a b tag c) := by
  intro s l x
  unfold serveStageHeader
  repeat' first | refine reheldIn_ite ?_ ?_ | split
  all_goals rfl

theorem serveStageStep_holdBlind (i k se su : Nat) (t : OptArg) (m p : Nat) (d y : OptArg) :
    HoldBlind (serveStageStep i k se su t m p d y) := by
  intro s l x
  unfold serveStageStep
  repeat' first | refine reheldIn_ite ?_ ?_ | split
  all_goals rfl

theorem serveStageLimits_holdBlind (m a b r q : Nat) : HoldBlind (serveStageLimits m a b r q) := by
  intro s l x
  unfold serveStageLimits
  repeat' first | refine reheldIn_ite ?_ ?_ | split
  all_goals rfl

theorem serveProgram_holdBlind (n : Nat) : HoldBlind (serveProgram n) := by
  intro s l x
  unfold serveProgram
  dsimp only [State.reheld_rst]
  repeat' first | refine reheldIn_ite ?_ ?_ | split
  any_goals rfl
  rw [State.reheld_invalidate]
  rfl

theorem serveErase_holdBlind (n : Nat) : HoldBlind (serveErase n) := by
  intro s l x
  unfold serveErase
  repeat' first | refine reheldIn_ite ?_ ?_ | split
  any_goals rfl
  rw [State.reheld_invalidate]
  rfl

theorem serveBlankCheck_holdBlind (n : Nat) : HoldBlind (serveBlankCheck n) := by
  intro s l x
  unfold serveBlankCheck
  repeat' first | refine reheldIn_ite ?_ ?_ | split
  any_goals rfl
  rw [State.reheld_invalidate]
  rfl

theorem serveLock_holdBlind (n : Nat) : HoldBlind (serveLock n) := by
  intro s l x
  unfold serveLock
  repeat' first | refine reheldIn_ite ?_ ?_ | split
  all_goals rfl

theorem serveLockOverride_holdBlind : HoldBlind serveLockOverride := by
  intro s l x
  unfold serveLockOverride
  dsimp only [State.reheld_rst]
  repeat' first | refine reheldIn_ite ?_ ?_ | split
  all_goals rfl

theorem serveStoreClear_holdBlind : HoldBlind serveStoreClear := by
  intro s l x
  unfold serveStoreClear
  repeat' first | refine reheldIn_ite ?_ ?_ | split
  all_goals rfl

theorem serveSuspend_holdBlind : HoldBlind serveSuspend := by
  intro s l x
  unfold serveSuspend
  dsimp only [State.reheld_rst]
  repeat' first | refine reheldIn_ite ?_ ?_ | split
  all_goals rfl

theorem serveResume_holdBlind : HoldBlind serveResume := by
  intro s l x
  unfold serveResume
  dsimp only [State.reheld_rst]
  repeat' first | refine reheldIn_ite ?_ ?_ | split
  all_goals rfl

theorem serveStop_holdBlind : HoldBlind serveStop := by
  intro s l x
  unfold serveStop
  repeat' first | refine reheldIn_ite ?_ ?_ | split
  · rfl
  · rw [State.reheld_stopRunning, State.reheld_stopSuspended]
    rfl

theorem serveClearStoreStatus_holdBlind : HoldBlind serveClearStoreStatus := fun _ _ _ => rfl

theorem serveSetStoreMode_holdBlind (n : Nat) : HoldBlind (serveSetStoreMode n) := by
  intro s l x
  unfold serveSetStoreMode
  repeat' first | refine reheldIn_ite ?_ ?_ | split
  all_goals rfl

theorem serveSetFetchPriority_holdBlind (n : Nat) : HoldBlind (serveSetFetchPriority n) := by
  intro s l x
  unfold serveSetFetchPriority
  repeat' first | refine reheldIn_ite ?_ ?_ | split
  all_goals rfl

theorem serveReadRecipe_holdBlind (a b : Nat) : HoldBlind (serveReadRecipe a b) := by
  intro s l x
  unfold serveReadRecipe
  dsimp only [State.reheld_rst, State.reheld_block]
  repeat' first | refine reheldIn_ite ?_ ?_ | split
  all_goals rfl

theorem serveReadStore_holdBlind : HoldBlind serveReadStore := fun _ _ _ => rfl

/-! ### PCU and TTB -/

theorem servePatchEdit_holdBlind : HoldBlind servePatchEdit := fun _ _ _ => rfl

theorem servePatchSet_holdBlind (a b c d e f g : Nat) : HoldBlind (servePatchSet a b c d e f g) := by
  intro s l x
  unfold servePatchSet
  repeat' first | refine reheldIn_ite ?_ ?_ | split
  all_goals rfl

theorem servePatchApply_holdBlind : HoldBlind servePatchApply := by
  intro s l x
  unfold servePatchApply
  repeat' first | refine reheldIn_ite ?_ ?_ | split
  all_goals rfl

theorem servePatchWithdraw_holdBlind : HoldBlind servePatchWithdraw := fun _ _ _ => rfl

theorem serveOpenTote_holdBlind (a b c : Nat) : HoldBlind (serveOpenTote a b c) := by
  intro s l x
  unfold serveOpenTote
  dsimp only [State.reheld_ttb]
  repeat' first | refine reheldIn_ite ?_ ?_ | split
  any_goals rfl
  rw [State.reheld_setTote, State.reheld_waitQueue, State.reheld_serveQueue]
  rfl

theorem serveCloseTote_holdBlind (n : Nat) : HoldBlind (serveCloseTote n) := by
  intro s l x
  unfold serveCloseTote
  dsimp only [State.reheld_tote]
  repeat' first | refine reheldIn_ite ?_ ?_ | split
  all_goals rfl

theorem serveReleaseTote_holdBlind (n : Nat) : HoldBlind (serveReleaseTote n) := by
  intro s l x
  unfold serveReleaseTote
  dsimp only [State.reheld_tote]
  repeat' first | refine reheldIn_ite ?_ ?_ | split
  all_goals rfl

theorem serveReadTote_holdBlind (a b : Nat) : HoldBlind (serveReadTote a b) := by
  intro s l x
  unfold serveReadTote
  dsimp only [State.reheld_tote]
  repeat' first | refine reheldIn_ite ?_ ?_ | split
  all_goals rfl

/-! ### The links' own requests -/

theorem LinkState.firstOf_held (ls : LinkState) (x : Option Held) (qs : List (NoticeKind × Nat)) : ∀ p,
    ({ ls with held := x } : LinkState).firstOf p qs = ls.firstOf p qs := by
  induction qs with
  | nil => exact fun _ => rfl
  | cons q qs ih =>
    intro p
    change (if ls.before q p then ({ ls with held := x } : LinkState).firstOf q qs
      else ({ ls with held := x } : LinkState).firstOf p qs) = if ls.before q p then ls.firstOf q qs else ls.firstOf p qs
    rw [ih, ih]

theorem LinkState.choice_reheld (ls : LinkState) (l m : Link) (x : Option Held) : (ls.reheld l x m).choice = ls.choice := by
  unfold LinkState.reheld
  split
  · unfold LinkState.choice
    dsimp only
    split
    · rfl
    · rw [LinkState.firstOf_held]
  · rfl

theorem serveTakeNotice_holdBlind (m : Link) : HoldBlind (serveTakeNotice m) := by
  intro s l x
  have choice : ((s.reheld l x).link m).choice = (s.link m).choice := by rw [State.link_reheld, LinkState.choice_reheld]
  unfold serveTakeNotice
  dsimp only
  rw [choice]
  split
  · rfl
  · cases l <;> cases m <;> rfl

theorem serveSetLevels_holdBlind (m : Link) (es : List (Nat × Nat)) : HoldBlind (serveSetLevels m es) := by
  intro s l x
  refine reheldIn_ite ?_ rfl
  cases l <;> cases m <;> rfl

theorem serveSetMask_holdBlind (m : Link) (n : Nat) : HoldBlind (serveSetMask m n) := by
  intro s l x
  unfold serveSetMask
  split
  · cases l <;> cases m <;> rfl
  · rfl

theorem HoldBlind.storeRequest {serve : State → State × Reply} (h : HoldBlind serve) : HoldBlind (storeRequest serve) := by
  intro s l x
  unfold Machine.storeRequest
  rw [h s l x]
  unfold reheldIn
  dsimp only
  split
  · split <;> rfl
  · rfl

/-! ### POWER ON (R37) -/

theorem State.reheld_self (s : State) (l : Link) : s.reheld l (s.link l).held = s := by cases l <;> rfl

theorem State.setLink_reheld (s : State) (l : Link) (x : Option Held) (ls : LinkState) :
    (s.reheld l x).setLink l ls = s.setLink l ls := by cases l <;> rfl

theorem LinkState.reheld_same (ls : LinkState) (l : Link) (x : Option Held) : ls.reheld l x l = { ls with held := x } :=
  if_pos rfl

/-- A response takes the place of what the link held. -/
theorem State.respond_reheld (s : State) (l : Link) (x : Option Held) (n : Nat) (k : RespCode) (p : List Byte) :
    (s.reheld l x).respond l n k p = s.respond l n k p := by
  rw [State.respond_eq, State.respond_eq, State.setLink_reheld, State.link_reheld, LinkState.reheld_same]

/-- PSQ serves an order whatever the test link holds; the answer to a POWER OFF takes the place of what it held. -/
theorem State.runOrder_reheld (s : State) (x : Option Held) (i : Slot) (o : PowerOrder) :
    ∃ y, (s.reheld .test x).runOrder i o = (s.runOrder i o).reheld .test y := by
  cases o with
  | spinDown => exact ⟨x, State.reheld_lookAtQueue { s with psq := s.psq.serveSpinDown s.rck.osc i } .test x⟩
  | release => exact ⟨x, State.reheld_lookAtQueue { s with psq := s.psq.serveRelease i } .test x⟩
  | powerOff asked =>
    let outcome := s.psq.servePowerOff s.rck.osc i
    let served := ({ s with psq := outcome.1 }.lookAtQueue).takeOutcome i outcome.2
    have serves : (({ s.reheld .test x with psq := outcome.1 }.lookAtQueue).takeOutcome i outcome.2) = served.reheld .test x := by
      rw [← State.reheld_takeOutcome, ← State.reheld_lookAtQueue]
      rfl
    change ∃ y, State.answerPowerOff _ asked = (State.answerPowerOff served asked).reheld .test y
    cases asked with
    | false => exact ⟨x, serves⟩
    | true =>
      refine ⟨_, ((congrArg (State.answerPowerOff · true) serves).trans ?_).trans
        ((served.answerPowerOff true).reheld_self .test).symm⟩
      exact served.respond_reheld .test x 0x11 .done []

theorem State.runOrders_reheld (i : Slot) (os : List PowerOrder) : ∀ (s : State) (x : Option Held),
    ∃ y, State.runOrders i os (s.reheld .test x) = (State.runOrders i os s).reheld .test y := by
  induction os with
  | nil => exact fun _ x => ⟨x, rfl⟩
  | cons o os ih =>
    intro s x
    obtain ⟨z, hz⟩ := (s.dropOrder i).runOrder_reheld x i o
    obtain ⟨y, hy⟩ := ih ((s.dropOrder i).runOrder i o) z
    exact ⟨y, (congrArg (State.runOrders i os) hz).trans hy⟩

theorem servePowerOn_reheld (n : Nat) (s : State) (x : Option Held) :
    ∃ y, servePowerOn n (s.reheld .test x) = reheldIn .test y (servePowerOn n s) := by
  unfold servePowerOn
  cases slotOf? n with
  | none => exact ⟨x, rfl⟩
  | some i =>
    obtain ⟨y, hy⟩ := State.runOrders_reheld i (s.mailOf i).orders s x
    dsimp only
    rw [State.reheld_slot, State.reheld_mailOf, hy]
    by_cases hstate : (s.slot i).state ≠ .loaded
    · exact ⟨x, by rw [if_pos hstate, if_pos hstate]; rfl⟩
    by_cases hclosed : (s.slot i).closed = false
    · exact ⟨x, by rw [if_neg hstate, if_neg hstate, if_pos hclosed, if_pos hclosed]; rfl⟩
    refine ⟨y, ?_⟩
    rw [if_neg hstate, if_neg hstate, if_neg hclosed, if_neg hclosed]
    let t := State.runOrders i (s.mailOf i).orders s
    let u := t.putSlot i { t.slot i with state := .spinUpWait }
    exact congrArg (·, Reply.done []) (State.reheld_lookAtQueue { u with psq := u.psq.enqueue i } .test y)

/-! ### The command (log entry 5) -/

/-- Every request is served the same whatever its link holds. -/
theorem service_reheld (c : Instr) (l : Link) (s : State) (x : Option Held) (hl : requestLink c = some l) :
    ∃ y, service c (s.reheld l x) = reheldIn l y (service c s) := by
  cases c with
  | powerOn n => cases hl; exact servePowerOn_reheld n s x
  | takeNotice m => exact ⟨x, serveTakeNotice_holdBlind m s l x⟩
  | setLevels m es => exact ⟨x, serveSetLevels_holdBlind m es s l x⟩
  | setMask m n => exact ⟨x, serveSetMask_holdBlind m n s l x⟩
  | readClock _ => exact ⟨x, serveReadClock_holdBlind s l x⟩
  | setTime a b => exact ⟨x, serveSetTime_holdBlind a b s l x⟩
  | setInputs a b c => exact ⟨x, serveSetInputs_holdBlind a b c s l x⟩
  | powerOff n => exact ⟨x, servePowerOff_holdBlind n s l x⟩
  | setPower a b c => exact ⟨x, serveSetPower_holdBlind a b c s l x⟩
  | setSerial n cs => exact ⟨x, serveSetSerial_holdBlind n cs s l x⟩
  | start n m => exact ⟨x, serveStart_holdBlind n m s l x⟩
  | advance n => exact ⟨x, serveAdvance_holdBlind n s l x⟩
  | measure a b c => exact ⟨x, serveMeasure_holdBlind a b c s l x⟩
  | finish n => exact ⟨x, serveFinish_holdBlind n s l x⟩
  | abort a b => exact ⟨x, serveAbort_holdBlind a b s l x⟩
  | readSlot _ n => exact ⟨x, serveReadSlot_holdBlind n s l x⟩
  | accessRequest a b => exact ⟨x, serveAccessRequest_holdBlind a b s l x⟩
  | accessDone a b => exact ⟨x, serveAccessDone_holdBlind a b s l x⟩
  | accessCancel n => exact ⟨x, serveAccessCancel_holdBlind n s l x⟩
  | quiet n => exact ⟨x, serveQuiet_holdBlind n s l x⟩
  | setQuiet a b c => exact ⟨x, serveSetQuiet_holdBlind a b c s l x⟩
  | setScan a b => exact ⟨x, serveSetScan_holdBlind a b s l x⟩
  | setProfile a b c fs => exact ⟨x, serveSetProfile_holdBlind a b c fs s l x⟩
  | setOffset a b => exact ⟨x, serveSetOffset_holdBlind a b s l x⟩
  | stageHeader a b t c => exact ⟨x, (serveStageHeader_holdBlind a b t c).storeRequest s l x⟩
  | stageStep i k se su t m p d y => exact ⟨x, (serveStageStep_holdBlind i k se su t m p d y).storeRequest s l x⟩
  | stageLimits m a b r q => exact ⟨x, (serveStageLimits_holdBlind m a b r q).storeRequest s l x⟩
  | program n => exact ⟨x, (serveProgram_holdBlind n).storeRequest s l x⟩
  | erase n => exact ⟨x, (serveErase_holdBlind n).storeRequest s l x⟩
  | blankCheck n => exact ⟨x, (serveBlankCheck_holdBlind n).storeRequest s l x⟩
  | lock n => exact ⟨x, (serveLock_holdBlind n).storeRequest s l x⟩
  | lockOverride => exact ⟨x, serveLockOverride_holdBlind.storeRequest s l x⟩
  | storeClear => exact ⟨x, serveStoreClear_holdBlind.storeRequest s l x⟩
  | suspend => exact ⟨x, serveSuspend_holdBlind.storeRequest s l x⟩
  | resume => exact ⟨x, serveResume_holdBlind.storeRequest s l x⟩
  | stop => exact ⟨x, serveStop_holdBlind.storeRequest s l x⟩
  | clearStoreStatus => exact ⟨x, serveClearStoreStatus_holdBlind.storeRequest s l x⟩
  | setStoreMode n => exact ⟨x, (serveSetStoreMode_holdBlind n).storeRequest s l x⟩
  | setFetchPriority n => exact ⟨x, (serveSetFetchPriority_holdBlind n).storeRequest s l x⟩
  | readRecipe a b => exact ⟨x, (serveReadRecipe_holdBlind a b).storeRequest s l x⟩
  | readStore => exact ⟨x, serveReadStore_holdBlind.storeRequest s l x⟩
  | patchEdit => exact ⟨x, servePatchEdit_holdBlind s l x⟩
  | patchSet a b c d e f g => exact ⟨x, servePatchSet_holdBlind a b c d e f g s l x⟩
  | patchApply => exact ⟨x, servePatchApply_holdBlind s l x⟩
  | patchWithdraw => exact ⟨x, servePatchWithdraw_holdBlind s l x⟩
  | openTote a b c => exact ⟨x, serveOpenTote_holdBlind a b c s l x⟩
  | closeTote n => exact ⟨x, serveCloseTote_holdBlind n s l x⟩
  | releaseTote n => exact ⟨x, serveReleaseTote_holdBlind n s l x⟩
  | readTote _ a b => exact ⟨x, serveReadTote_holdBlind a b s l x⟩
  | rackReset => exact ⟨x, serveRackReset_holdBlind s l x⟩
  | _ => cases hl

/-- What a link makes of the answer takes the place of what it held. -/
theorem State.settle_reheld (s : State) (l : Link) (x : Option Held) (c : Instr) (r : Reply) :
    (s.reheld l x).settle l c r = s.settle l c r := by
  cases r with
  | now k p => exact s.respond_reheld l x _ k p
  | later | notYet =>
    change (s.reheld l x).setLink l { (s.reheld l x).link l with held := _ } = s.setLink l { s.link l with held := _ }
    rw [State.setLink_reheld, State.link_reheld, LinkState.reheld_same]

/-- Settles O9: a request command counts as the frame that brings it. -/
theorem requestsOnABusyLinkAreOverrun : Obligations.RequestsOnABusyLinkAreOverrun := by
  intro c l s hl
  refine ⟨fun h hheld hother => ?_, fun hfree hroom hwrong => ?_, fun hfree hmarked => ?_⟩
  · have : s.request l c (service c) = s.answerUntaken l (requestCode c) .overrun := by
      unfold State.request; rw [hheld]; exact if_neg hother
    rw [exec_request c l s hl, this, State.answerUntaken_eq]
  · have : s.request l c (service c) = s.refuseTaken l (requestCode c) .notPermitted := by
      unfold State.request; rw [hfree]; exact if_neg (by rw [hwrong]; exact Bool.false_ne_true)
    rw [exec_request c l s hl, this]
    refine congrArg _ (State.respond_room _ l _ _ _ ?_)
    split
    · rw [State.link_clearOverride]; exact hroom
    · exact hroom
  · have taken : s.request l c (service c) = (service c s).1.settle l c (service c s).2 := by
      unfold State.request; rw [hfree]; exact if_pos hmarked
    obtain ⟨y, hy⟩ := service_reheld c l s (some (.passed c)) hl
    have passed : s.setLink l { s.link l with held := some (.passed c) } = s.reheld l (some (.passed c)) :=
      s.hold_eq_reheld l _
    have holds : ((s.reheld l (some (.passed c))).link l).held = some (.passed c) := by
      rw [State.link_reheld, LinkState.reheld_same]
    rw [passed, exec_request c l s hl, exec_request c l _ hl, taken, State.request_held _ l c _ holds, hy]
    exact congrArg _ (State.settle_reheld ..).symm

end Sys2Proof.Machine
end

section
/-! Rack time, the watch list and deadline expiries (R18, R20, R22, R25, R26): what RCK's operations and SSQ's service of an
expiry do. -/

namespace Sys2Proof.Machine

/-! ### The comparison with rack time (R25) -/

/-- A time reaches a deadline with greater seconds, or with equal seconds and milliseconds that are not less. -/
theorem RackTime.reaches_iff (t d : RackTime) : t.reaches d = true ↔
    d.seconds < t.seconds ∨ (t.seconds = d.seconds ∧ d.millis ≤ t.millis) := by
  simp [RackTime.reaches]

@[simp] theorem firedAt_none (t : RackTime) : firedAt t none = none := rfl

theorem firedAt_of_reached {t : RackTime} {d : Deadline} (h : t.reaches d.time = true) : firedAt t (some d) = some d :=
  if_pos h

theorem firedAt_of_not_reached {t : RackTime} {d : Deadline} (h : ¬ t.reaches d.time = true) :
    firedAt t (some d) = none := if_neg h

/-- The entry that a comparison leaves is the one compared, not yet reached. -/
theorem mem_unless_fired_iff (t : RackTime) (e : Option Deadline) (d : Deadline) :
    d ∈ (if (firedAt t e).isSome then none else e) ↔ d ∈ e ∧ t.reaches d.time = false := by
  cases e with
  | none => simp
  | some c =>
    by_cases hc : t.reaches c.time = true
    · rw [firedAt_of_reached hc]
      simp only [Option.isSome_some, if_true, Option.mem_def, reduceCtorEq, Option.some.injEq, false_iff, not_and]
      rintro rfl
      simpa using hc
    · rw [firedAt_of_not_reached hc]
      simp only [Option.isSome_none, Bool.false_eq_true, if_false, Option.mem_def, Option.some.injEq, iff_self_and]
      rintro rfl
      simpa using hc

theorem State.watch_compareDeadlines (s : State) (i : Slot) : tget s.compareDeadlines.rck.watch i =
    if (firedAt s.now (tget s.rck.watch i)).isSome then none else tget s.rck.watch i := tget_tof ..

theorem State.mailOf_compareDeadlines (s : State) (i : Slot) :
    s.compareDeadlines.mailOf i = (s.mailOf i).withExpiry (firedAt s.now (tget s.rck.watch i)) := tget_tof ..

/-- An absent entry, or one not reached, stays, and nothing is sent. -/
theorem State.compareDeadlines_quiet (s : State) (i : Slot) (h : firedAt s.now (tget s.rck.watch i) = none) :
    tget s.compareDeadlines.rck.watch i = tget s.rck.watch i ∧ s.compareDeadlines.mailOf i = s.mailOf i := by
  rw [s.watch_compareDeadlines, s.mailOf_compareDeadlines, h]
  exact ⟨rfl, rfl⟩

/-- An entry that is reached becomes absent, and its expiry is on its way. -/
theorem State.compareDeadlines_fires (s : State) (i : Slot) (d : Deadline) (h : firedAt s.now (tget s.rck.watch i) = some d) :
    tget s.compareDeadlines.rck.watch i = none ∧
      s.compareDeadlines.mailOf i = { s.mailOf i with deadlines := (s.mailOf i).deadlines ++ [d] } := by
  rw [s.watch_compareDeadlines, s.mailOf_compareDeadlines, h]
  exact ⟨rfl, rfl⟩

/-! ### RACK TIME ADVANCE, SET TIME and the tick (R18, R20, R22, R108) -/

/-- The millisecond of R18 and R22, in one update. -/
theorem State.oscillate_eq (s : State) : s.oscillate = { s with
    rck := { s.rck with
      osc := s.rck.osc + 1
      time := s.rck.time.next
      tickPhase := if s.rck.tickPhase + 1 < 1000 then s.rck.tickPhase + 1 else 0 }
    ticks := if s.rck.tickPhase + 1 < 1000 then s.ticks else s.ticks + 1 } := by
  unfold State.oscillate
  by_cases h : s.rck.tickPhase + 1 < 1000
  · simp only [if_pos h]
  · simp only [if_neg h]

/-- SET TIME within its ranges. -/
theorem serveSetTime_legal (t m : Nat) (s : State) (h : t ≤ 4294967295 ∧ m ≤ 999) : serveSetTime t m s =
    ({ s with rck := { s.rck with time := ⟨t, m⟩, unset := false } }.compareDeadlines, .done []) := by
  simp only [serveSetTime, natIn?_in ⟨Nat.zero_le t, h.1⟩, natIn?_in ⟨Nat.zero_le m, h.2⟩]

/-- SET TIME out of its ranges (R28). -/
theorem serveSetTime_range (t m : Nat) (s : State) (h : ¬ (t ≤ 4294967295 ∧ m ≤ 999)) :
    serveSetTime t m s = (s, .refuse .range) := by
  unfold serveSetTime
  split
  · next a b ha hb => exact absurd ⟨(natIn?_some ha).2.2, (natIn?_some hb).2.2⟩ h
  · rfl

/-- Settles O17: rack time, SET TIME, the comparison of the watch list, and the tick. -/
theorem clockAdvancesTicksAndFiresDeadlines : Obligations.ClockAdvancesTicksAndFiresDeadlines := by
  refine ⟨fun s => ?_, fun t m s hr => ?_, fun s => ⟨rfl, fun i => ⟨fun hw => ?_, fun d hw => ?_⟩⟩,
    fun s => ⟨fun h0 => if_pos h0, fun hpos => ?_⟩⟩
  · exact congrArg (fun u : State => Host.Outcome.next u.compareDeadlines) s.oscillate_eq
  · split
    · next h => exact exec_ready_now _ .line s _ .done [] rfl hr (serveSetTime_legal t m s h) rfl
    · next h => exact exec_ready_refused _ .line s .range rfl hr (serveSetTime_range t m s h)
  · have quiet := s.compareDeadlines_quiet i (by rw [hw, firedAt_none])
    rwa [hw] at quiet
  · simp only [← RackTime.reaches_iff]
    split
    · next h => exact s.compareDeadlines_fires i d (by rw [hw]; exact firedAt_of_reached h)
    · next h =>
      have quiet := s.compareDeadlines_quiet i (by rw [hw]; exact firedAt_of_not_reached h)
      rwa [hw] at quiet
  · exact ⟨_, if_neg (Nat.pos_iff_ne_zero.1 hpos), rfl, fun i => tget_tof ..⟩

/-! ### Deadline expiries (R26) -/

/-- The record is RUNNING the stage and the deadline that an entry of the watch list, or an expiry, names. -/
def SlotRecord.runs (r : SlotRecord) (d : Deadline) : Prop :=
  r.state = .running ∧ r.stage = d.stage ∧ r.context.bind (·.deadline) = some d.time

theorem State.serveExpiry_runs (s : State) (i : Slot) (d : Deadline) (h : (s.slot i).runs d) : s.serveExpiry i d =
    (s.putSlot i { s.slot i with marks := markOvertime (s.slot i).marks (s.slot i).stage }).post .deadline i.val :=
  if_pos h

theorem State.serveExpiry_stale (s : State) (i : Slot) (d : Deadline) (h : ¬ (s.slot i).runs d) : s.serveExpiry i d = s :=
  if_neg h

/-- The oldest expiry on its way is served. -/
theorem execDeadlineExpiry_cons (i : Slot) (s : State) (d : Deadline) (rest : List Deadline)
    (h : (s.mailOf i).deadlines = d :: rest) :
    execDeadlineExpiry i s = .next ((s.setMail i { s.mailOf i with deadlines := rest }).serveExpiry i d) := by
  simp only [execDeadlineExpiry, h]

/-- OVERTIME is marked on one stage alone. -/
theorem getElem?_markOvertime (marks : List Marks) (k n : Nat) (m : Marks) (h : marks[n]? = some m) :
    (markOvertime marks k)[n]? = some (if n = k then { m with overtime := true } else m) := by
  rw [markOvertime, List.getElem?_modify, h]
  by_cases e : n = k
  · simp [e]
  · simp [e, Ne.symm e]

/-- Settles O18: an expiry marks OVERTIME on the stage it belongs to, or is stale. -/
theorem deadlineExpiryMarksOvertime : Obligations.DeadlineExpiryMarksOvertime := by
  intro i s d rest hmail
  have served : exec (.deadlineExpiry i) s =
      .next ((s.setMail i { s.mailOf i with deadlines := rest }).serveExpiry i d) :=
    execDeadlineExpiry_cons i s d rest hmail
  dsimp only
  rw [served, ← Option.bind_eq_some_iff]
  constructor
  · intro stale
    exact congrArg Host.Outcome.next (State.serveExpiry_stale _ i d stale)
  · intro runs
    exact ⟨_, congrArg Host.Outcome.next (State.serveExpiry_runs _ i d runs), List.length_modify .., fun n m =>
      getElem?_markOvertime _ _ n m⟩

end Sys2Proof.Machine
end

section
/-! The laws of the clock, the watch list and the input filters, kept by the operations on slot records (R18, R22, R24, R25, R27,
R31, R34). A slot record may be written where its watch list entry is absent, or where the record still runs what the entry
names. -/

namespace Sys2Proof.Machine

/-- What RCK and SIF keep. -/
structure ClockInputLaws (s : State) : Prop where
  clock : ClockLaws s
  inputs : InputLaws s.sif

/-- No slot that waits for a tote is RUNNING. -/
def State.waitersIdle (s : State) : Prop := ∀ g, ∀ j ∈ s.waitQueue g, (s.slot j).state ≠ .running

/-- The slots of the wait queues are those in DISPATCH_WAIT (R161). -/
theorem Lawful.waitersIdle {s : State} (h : Lawful s) : s.waitersIdle := by
  intro g j hj
  rw [((h.totes.queues g j).1 hj).1]
  decide

@[simp] theorem State.compareDeadlines_time (s : State) : s.compareDeadlines.rck.time = s.rck.time := by
  simp only [State.compareDeadlines]

@[simp] theorem State.compareDeadlines_tickPhase (s : State) : s.compareDeadlines.rck.tickPhase = s.rck.tickPhase := by
  simp only [State.compareDeadlines]

theorem State.watch_arm (s : State) (i j : Slot) (e : Option Deadline) : tget (s.arm i e).rck.watch j =
    if j = i then (if (firedAt s.now e).isSome then none else e) else tget s.rck.watch j := tget_tset ..

theorem RackTime.legal_next {t : RackTime} (h : t.legal) : t.next.legal := by
  obtain ⟨hs, hm⟩ := h
  unfold RackTime.next
  repeat' split
  · exact ⟨hs, by dsimp only; omega⟩
  · exact ⟨by dsimp only; omega, Nat.zero_lt_succ _⟩
  · exact ⟨hs, hm⟩

/-- The laws of the clock speak of RCK and the slot records alone. -/
theorem ClockLaws.of_frame {s t : State} (h : ClockLaws s) (hr : t.rck = s.rck) (hs : t.slots = s.slots) : ClockLaws t := by
  refine ⟨hr ▸ h.time, hr ▸ h.phase, ?_⟩
  unfold State.slot State.now
  rw [hr, hs]
  exact h.armed

namespace ClockInputLaws

variable {s t : State}

/-- The laws speak of RCK, SIF and the slot records alone. -/
theorem of_frame (h : ClockInputLaws s) (e : t.rck = s.rck ∧ t.sif = s.sif ∧ t.slots = s.slots) : ClockInputLaws t := by
  obtain ⟨hr, hq, hs⟩ := e
  exact ⟨h.clock.of_frame hr hs, hq ▸ h.inputs⟩

theorem post (h : ClockInputLaws s) (k : NoticeKind) (n : Nat) : ClockInputLaws (s.post k n) := h.of_frame (by simp)

theorem setMail (h : ClockInputLaws s) (i : Slot) (m : Mail) : ClockInputLaws (s.setMail i m) := h.of_frame (by simp)

theorem respond (h : ClockInputLaws s) (l : Link) (n : Nat) (k : RespCode) (p : List Byte) :
    ClockInputLaws (s.respond l n k p) := h.of_frame (by simp)

/-! ### Rack time and the watch list -/

/-- An armed entry names what its slot runs. -/
theorem runs_of_armed (h : ClockInputLaws s) (i : Slot) (d : Deadline) (hd : d ∈ tget s.rck.watch i) : (s.slot i).runs d := by
  obtain ⟨hstate, hstage, hdeadline, -⟩ := h.clock.armed i d hd
  exact ⟨hstate, hstage, hdeadline⟩

/-- A slot that is not RUNNING has no entry (R27). -/
theorem watch_of_idle (h : ClockInputLaws s) (i : Slot) (hi : (s.slot i).state ≠ .running) : tget s.rck.watch i = none :=
  Option.eq_none_iff_forall_ne_some.2 fun d hd => hi (h.runs_of_armed i d hd).1

/-- Whatever rack time has become, the comparison leaves no entry that it reaches (R25). -/
theorem compareDeadlines (ht : s.rck.time.legal) (hp : s.rck.tickPhase < Config.tickMillis)
    (hr : ∀ i, ∀ d ∈ tget s.rck.watch i, (s.slot i).runs d) (hq : InputLaws s.sif) : ClockInputLaws s.compareDeadlines := by
  refine ⟨⟨by rwa [State.compareDeadlines_time], by rwa [State.compareDeadlines_tickPhase], fun i d hd => ?_⟩,
    by rwa [State.compareDeadlines_sif]⟩
  rw [State.watch_compareDeadlines, mem_unless_fired_iff] at hd
  obtain ⟨hd, hreach⟩ := hd
  obtain ⟨hstate, hstage, hdeadline⟩ := hr i d hd
  rw [State.slot, State.compareDeadlines_slots, State.now, State.compareDeadlines_time]
  exact ⟨hstate, hstage, hdeadline, hreach⟩

/-- A millisecond of the reference oscillator (R18, R22, R25). -/
theorem advance (h : ClockInputLaws s) : ClockInputLaws s.oscillate.compareDeadlines := by
  rw [s.oscillate_eq]
  refine compareDeadlines (RackTime.legal_next h.clock.time) ?_ h.runs_of_armed h.inputs
  dsimp only
  split
  · assumption
  · decide

theorem serveSetTime (h : ClockInputLaws s) (a b : Nat) : ClockInputLaws (serveSetTime a b s).1 := by
  by_cases hr : a ≤ 4294967295 ∧ b ≤ 999
  · rw [serveSetTime_legal a b s hr]
    exact compareDeadlines ⟨hr.1, Nat.lt_succ_of_le hr.2⟩ h.clock.phase h.runs_of_armed h.inputs
  · rw [serveSetTime_range a b s hr]
    exact h

/-- A slot's entry made absent (R27). -/
theorem arm_none (h : ClockInputLaws s) (i : Slot) : ClockInputLaws (s.arm i none) := by
  refine ⟨⟨h.clock.time, h.clock.phase, fun j d hd => ?_⟩, h.inputs⟩
  rw [s.watch_arm] at hd
  split at hd
  · cases hd
  · exact h.clock.armed j d hd

/-! ### Slot records -/

/-- A record that runs what the slot's entry names. -/
theorem putSlot (h : ClockInputLaws s) (i : Slot) (r : SlotRecord) (hr : ∀ d ∈ tget s.rck.watch i, r.runs d) :
    ClockInputLaws (s.putSlot i r) := by
  refine ⟨⟨h.clock.time, h.clock.phase, fun j d hd => ?_⟩, h.inputs⟩
  obtain ⟨hstate, hstage, hdeadline, hreach⟩ := h.clock.armed j d hd
  rw [s.slot_putSlot]
  split
  · next e =>
    subst e
    obtain ⟨hstate, hstage, hdeadline⟩ := hr d hd
    exact ⟨hstate, hstage, hdeadline, hreach⟩
  · exact ⟨hstate, hstage, hdeadline, hreach⟩

/-- Any record, at a slot without an entry. -/
theorem putSlot_off (h : ClockInputLaws s) (i : Slot) (r : SlotRecord) (hw : tget s.rck.watch i = none) :
    ClockInputLaws (s.putSlot i r) := h.putSlot i r fun d hd => by rw [hw] at hd; cases hd

/-- Any record, at a slot that is not RUNNING. -/
theorem putSlot_idle (h : ClockInputLaws s) (i : Slot) (r : SlotRecord) (hi : (s.slot i).state ≠ .running) :
    ClockInputLaws (s.putSlot i r) := h.putSlot_off i r (h.watch_of_idle i hi)

/-- A record with the same state, stage and stage context. -/
theorem putSlot_same (h : ClockInputLaws s) (i : Slot) (r : SlotRecord) (hs : r.state = (s.slot i).state)
    (hn : r.stage = (s.slot i).stage) (hc : r.context = (s.slot i).context) : ClockInputLaws (s.putSlot i r) :=
  h.putSlot i r fun d hd => by
    obtain ⟨hstate, hstage, hdeadline⟩ := h.runs_of_armed i d hd
    exact ⟨hs.trans hstate, hn.trans hstage, hc ▸ hdeadline⟩

/-- The same, with a notice posted. -/
theorem mark (h : ClockInputLaws s) (i : Slot) (r : SlotRecord) (k : NoticeKind) (n : Nat) (hs : r.state = (s.slot i).state)
    (hn : r.stage = (s.slot i).stage) (hc : r.context = (s.slot i).context) : ClockInputLaws ((s.putSlot i r).post k n) :=
  (h.putSlot_same i r hs hn hc).post k n

/-- A captured stage: the entry armed for it is the one that its record runs (R24, R56). -/
theorem capture (h : ClockInputLaws s) (i : Slot) (r : SlotRecord) (n : Nat) (e : StageEntry) :
    ClockInputLaws (s.capture i r n e) := by
  have armed : ClockInputLaws ((s.arm i ((e.context s.now).deadline.map fun d => ⟨d, n⟩)).putSlot i
      (r.captured n e s.now (s.holdCount i))) := by
    refine ⟨⟨h.clock.time, h.clock.phase, fun j d hd => ?_⟩, h.inputs⟩
    rw [State.putSlot_rck, s.watch_arm] at hd
    rw [State.slot_putSlot]
    split at hd
    · next ej =>
      rw [mem_unless_fired_iff] at hd
      obtain ⟨hd, hreach⟩ := hd
      obtain ⟨x, hx, rfl⟩ := Option.map_eq_some_iff.1 hd
      rw [if_pos ej]
      exact ⟨rfl, rfl, hx, hreach⟩
    · next ej =>
      rw [if_neg ej]
      exact h.clock.armed j d hd
  exact armed.setMail i _

/-- A graded drive's slot has no entry (R27, R67). -/
theorem gradeSlot (h : ClockInputLaws s) (i : Slot) (r : SlotRecord) (l : Option Limits) (n : Nat) :
    ClockInputLaws (s.gradeSlot i r l n) := by
  have released : ClockInputLaws (s.releaseRefOf r) := h.of_frame (by simp)
  have noted : ClockInputLaws (((s.releaseRefOf r).arm i none).setNote i (some r.note)) :=
    (released.arm_none i).of_frame (by simp)
  exact noted.putSlot_off i _ (tget_tset_same ..)

theorem gradeToSpinDown (h : ClockInputLaws s) (i : Slot) (r : SlotRecord) (l : Option Limits) (n : Nat) :
    ClockInputLaws (s.gradeToSpinDown i r l n) := (h.gradeSlot i _ l n).setMail i _

/-- A cleared slot has no entry (R27, R49). -/
theorem clearSlot (h : ClockInputLaws s) (i : Slot) : ClockInputLaws (s.clearSlot i) := by
  have released : ClockInputLaws (s.releaseRefOf (s.slot i)) := h.of_frame (by simp)
  have noted : ClockInputLaws (((s.releaseRefOf (s.slot i)).arm i none).setNote i none) :=
    (released.arm_none i).of_frame (by simp)
  exact noted.putSlot_off i _ (tget_tset_same ..)

/-! ### TTB -/

/-- A reservation, for a slot that is not RUNNING. -/
theorem reserve? (h : ClockInputLaws s) (g : Bin) (i : Slot) (hi : (s.slot i).state ≠ .running)
    (ht : s.reserve? g i = some t) : ClockInputLaws t := by
  simp only [State.reserve?, Option.bind_eq_some_iff, Option.map_eq_some_iff] at ht
  obtain ⟨x, -, p, -, rfl⟩ := ht
  have put (r : Tote) : ClockInputLaws (s.setTote x.1 r) := h.of_frame (by simp)
  exact ((put _).putSlot_idle i _ hi).post _ _

theorem stall (h : ClockInputLaws s) (g : Bin) (i : Slot) (hi : (s.slot i).state ≠ .running) :
    ClockInputLaws (s.stall g i) := by
  have queued : ClockInputLaws (s.setQueue g (s.waitQueue g ++ [i])) := h.of_frame (by simp)
  exact (queued.putSlot_idle i _ hi).post _ _

theorem dispatch (h : ClockInputLaws s) (i : Slot) (hi : (s.slot i).state ≠ .running) : ClockInputLaws (s.dispatch i) := by
  unfold State.dispatch
  split
  · next g _ =>
    cases ht : s.reserve? g.1 i with
    | none => exact h.stall g.1 i hi
    | some t => exact h.reserve? g.1 i hi ht
  · exact h

end ClockInputLaws

/-- A record that is not RUNNING makes no slot RUNNING. -/
theorem State.putSlot_idle (s : State) (i j : Slot) (r : SlotRecord) (hr : r.state ≠ .running)
    (hj : (s.slot j).state ≠ .running) : ((s.putSlot i r).slot j).state ≠ .running := by
  rw [State.slot_putSlot]
  split
  · exact hr
  · exact hj

/-- A reservation makes no slot RUNNING. -/
theorem State.reserve?_idle {s t : State} {g : Bin} {i j : Slot} (ht : s.reserve? g i = some t)
    (hj : (s.slot j).state ≠ .running) : (t.slot j).state ≠ .running := by
  simp only [State.reserve?, Option.bind_eq_some_iff, Option.map_eq_some_iff] at ht
  obtain ⟨x, -, p, -, rfl⟩ := ht
  exact State.putSlot_idle _ i j _ SlotState.noConfusion hj

/-- The outcome of a power-off order makes no slot RUNNING. -/
theorem State.takeOutcome_idle (s : State) (i j : Slot) (o : PowerOutcome) (hj : (s.slot j).state ≠ .running) :
    ((s.takeOutcome i o).slot j).state ≠ .running := by
  unfold State.takeOutcome
  dsimp only
  split
  · cases o with
    | withdrawn => exact s.putSlot_idle i j _ SlotState.noConfusion hj
    | spinningDown => exact s.putSlot_idle i j _ SlotState.noConfusion hj
  · exact hj

end Sys2Proof.Machine
end

section
/-! Every step keeps the laws of the clock, the watch list and the input filters. -/

namespace Sys2Proof.Machine

/-! ### SIF (R31, R34) -/

theorem InputFilter.sample_run_le (f : InputFilter) (level : Bool) (h : f.run ≤ 2) : (f.sample level).1.run ≤ 2 := by
  unfold InputFilter.sample
  repeat' split
  · exact Nat.zero_le _
  · exact Nat.zero_le _
  · dsimp only; omega

/-- A sample keeps the runs below the third reading, and counts three samples at most. -/
theorem InputLaws.sampled {q : Sif} (h : InputLaws q) (p l : BitVec 24) (n : Nat) : InputLaws (q.sampled p l n) where
  presence i := by
    rw [Sif.sampled, tget_tof]
    exact InputFilter.sample_run_le _ _ (h.presence i)
  latch i := by
    rw [Sif.sampled, tget_tof]
    exact InputFilter.sample_run_le _ _ (h.latch i)
  interval := by rw [Sif.sampled]; exact h.interval
  startUp := by rw [Sif.sampled]; exact Nat.min_le_left 3 _

/-- SET INPUTS names one of the four intervals (R34). -/
theorem intervalOf?_mem {n m : Nat} (h : intervalOf? n = some m) : m ∈ [1, 2, 5, 10] := by
  unfold intervalOf? at h
  split at h <;> cases h <;> decide

theorem restartRuns_run_le (p q : Polarity) (v : Vector InputFilter 24) (h : ∀ i, (tget v i).run ≤ 2) (i : Slot) :
    (tget (restartRuns p q v) i).run ≤ 2 := by
  unfold restartRuns
  split
  · exact h i
  · rw [tget_tof]
    exact Nat.zero_le _

/-- SET INPUTS keeps the runs or restarts them (R34, R35). -/
theorem InputLaws.setInputs {q : Sif} (h : InputLaws q) {n m : Nat} (hm : intervalOf? n = some m) (a b : Polarity) :
    InputLaws { q with
      interval := m, presencePolarity := a, latchPolarity := b
      presence := restartRuns q.presencePolarity a q.presence, latch := restartRuns q.latchPolarity b q.latch } where
  presence := restartRuns_run_le _ _ _ h.presence
  latch := restartRuns_run_le _ _ _ h.latch
  interval := intervalOf?_mem hm
  startUp := h.startUp

namespace ClockInputLaws

variable {s t : State}

theorem sampleInputs (h : ClockInputLaws s) (p q : BitVec 24) : ClockInputLaws (s.sampleInputs p q) :=
  ⟨h.clock.of_frame (by simp) (by simp), h.inputs.sampled p q s.rck.osc⟩

theorem serveSetInputs (h : ClockInputLaws s) (a b c : Nat) : ClockInputLaws (serveSetInputs a b c s).1 := by
  unfold Machine.serveSetInputs
  split
  · next hm _ _ => exact ⟨h.clock.of_frame rfl rfl, h.inputs.setInputs hm _ _⟩
  · exact h

/-! ### TTB -/

/-- A wait queue served: none of its slots is RUNNING. -/
theorem serveQueue (g : Bin) (q : List Slot) : ∀ s : State, ClockInputLaws s → (∀ j ∈ q, (s.slot j).state ≠ .running) →
    ClockInputLaws (State.serveQueue g q s).1 := by
  induction q with
  | nil => exact fun _ h _ => h
  | cons i rest ih =>
    intro s h hq
    have queued : ClockInputLaws (s.setQueue g rest) := h.of_frame (by simp)
    unfold State.serveQueue
    split
    · next t ht =>
      refine ih t (queued.reserve? g i (hq i List.mem_cons_self) ht) fun j hj => ?_
      exact State.reserve?_idle ht (hq j (List.mem_cons_of_mem i hj))
    · exact h

/-- A reservation released, and given to the head of the bin's wait queue. -/
theorem releaseReservation (h : ClockInputLaws s) (hw : s.waitersIdle) (i : Slot) :
    ClockInputLaws (s.releaseReservation i) := by
  unfold State.releaseReservation
  split
  · next n b p _ =>
    have emptied : ClockInputLaws (s.setTote n (.opened (b.put p .empty))) := h.of_frame (by simp)
    dsimp only
    split
    · exact emptied
    · next j rest hq =>
      have queued : ClockInputLaws ((s.setTote n (.opened (b.put p .empty))).setQueue b.bin rest) :=
        emptied.of_frame (by simp)
      have idle : (s.slot j).state ≠ .running := hw b.bin j (by
        change s.waitQueue b.bin = j :: rest at hq
        rw [hq]
        exact List.mem_cons_self)
      cases ht : ((s.setTote n (.opened (b.put p .empty))).setQueue b.bin rest).reserve? b.bin j with
      | none => exact emptied
      | some t => exact queued.reserve? b.bin j idle ht
  · exact h

theorem serveOpenTote (h : ClockInputLaws s) (hw : s.waitersIdle) (a b c : Nat) :
    ClockInputLaws (serveOpenTote a b c s).1 := by
  unfold Machine.serveOpenTote
  split
  · next g _ _ _ _ =>
    repeat' split
    · exact h
    · exact h
    · next t _ => exact serveQueue g _ _ (h.of_frame (by simp)) fun j hj => hw g j hj
  · exact h

/-! ### QAC -/

theorem loadPlaced (h : ClockInputLaws s) (i : Slot) : ClockInputLaws (s.loadPlaced i) := by
  unfold State.loadPlaced
  split
  · next he => exact (h.putSlot_idle i _ (by rw [he]; decide)).post _ _
  · exact h

theorem unloadPlaced (h : ClockInputLaws s) (i : Slot) : ClockInputLaws (s.unloadPlaced i) := by
  have filled : ClockInputLaws (s.fillReservation i) := h.of_frame (by simp)
  unfold State.unloadPlaced
  split
  · exact filled.clearSlot i
  · exact h

theorem freeAccess (h : ClockInputLaws s) (r : Fin 2) : ClockInputLaws (s.freeAccess r) := h.of_frame (by simp)

theorem endAccess (h : ClockInputLaws s) (r : Fin 2) (u : AccessUse) (p o q : Bool) :
    ClockInputLaws (s.endAccess r u p o q).1 := by
  unfold State.endAccess
  dsimp only
  repeat' split
  · exact (h.loadPlaced u.target).freeAccess r
  · exact h
  · exact h
  · exact (h.unloadPlaced u.target).freeAccess r
  · exact h.freeAccess r
  · exact h

theorem serveAccessDone (h : ClockInputLaws s) (a b : Nat) : ClockInputLaws (serveAccessDone a b s).1 := by
  unfold Machine.serveAccessDone
  repeat' split
  · exact h.endAccess _ _ _ _ _
  all_goals exact h

theorem serveQuiet (h : ClockInputLaws s) (n : Nat) : ClockInputLaws (serveQuiet n s).1 := by
  unfold Machine.serveQuiet
  repeat' split
  · exact h
  · exact h.putSlot_same _ _ rfl rfl rfl
  all_goals exact h

theorem applyAsk (h : ClockInputLaws s) (i : Slot) : ClockInputLaws (s.applyAsk i) := by
  unfold State.applyAsk
  split
  · exact h.mark i _ _ _ rfl rfl rfl
  · exact h

theorem applyRelease (h : ClockInputLaws s) (i : Slot) : ClockInputLaws (s.applyRelease i) := by
  unfold State.applyRelease
  split
  · exact h.mark i _ _ _ rfl rfl rfl
  · exact h

theorem applyDisturbance (h : ClockInputLaws s) (i : Slot) : ClockInputLaws (s.applyDisturbance i) := by
  unfold State.applyDisturbance
  split
  · exact h.mark i _ _ _ rfl rfl rfl
  · exact h

/-! ### PSQ and its reports -/

theorem takeOutcome (h : ClockInputLaws s) (i : Slot) (o : PowerOutcome) : ClockInputLaws (s.takeOutcome i o) := by
  unfold State.takeOutcome
  dsimp only
  split
  · next hs =>
    have idle : (s.slot i).state ≠ .running := by rcases hs with hs | hs | hs <;> rw [hs] <;> decide
    cases o with
    | withdrawn => exact h.putSlot_idle i _ idle
    | spinningDown => exact h.putSlot_idle i _ idle
  · exact h

theorem answerPowerOff (h : ClockInputLaws s) (q : Bool) : ClockInputLaws (s.answerPowerOff q) := h.of_frame (by simp)

theorem runPowerOff (h : ClockInputLaws s) (i : Slot) (q : Bool) : ClockInputLaws (s.runPowerOff i q) := by
  have looked : ClockInputLaws ({ s with psq := (s.psq.servePowerOff s.rck.osc i).1 }.lookAtQueue) := h.of_frame (by simp)
  exact (looked.takeOutcome i _).answerPowerOff q

theorem runOrder (h : ClockInputLaws s) (i : Slot) (o : PowerOrder) : ClockInputLaws (s.runOrder i o) := by
  cases o with
  | powerOff q => exact h.runPowerOff i q
  | spinDown => exact h.of_frame (by simp [State.runOrder])
  | release => exact h.of_frame (by simp [State.runOrder])

theorem runOrders (i : Slot) (os : List PowerOrder) : ∀ s : State, ClockInputLaws s →
    ClockInputLaws (State.runOrders i os s) := by
  induction os with
  | nil => exact fun _ h => h
  | cons o os ih => exact fun s h => ih _ ((h.setMail i _).runOrder i o)

end ClockInputLaws

/-- PSQ's service of an order makes no slot RUNNING. -/
theorem State.runOrder_idle (s : State) (i j : Slot) (o : PowerOrder) (hj : (s.slot j).state ≠ .running) :
    ((s.runOrder i o).slot j).state ≠ .running := by
  cases o with
  | powerOff q =>
    have looked : (({ s with psq := (s.psq.servePowerOff s.rck.osc i).1 }.lookAtQueue).slot j).state ≠ .running := by
      simpa [State.slot] using hj
    simpa [State.runOrder, State.runPowerOff, State.slot] using State.takeOutcome_idle _ i j
      (s.psq.servePowerOff s.rck.osc i).2 looked
  | spinDown => simpa [State.runOrder, State.slot] using hj
  | release => simpa [State.runOrder, State.slot] using hj

theorem State.runOrders_idle (i j : Slot) (os : List PowerOrder) : ∀ s : State, (s.slot j).state ≠ .running →
    ((State.runOrders i os s).slot j).state ≠ .running := by
  induction os with
  | nil => exact fun _ h => h
  | cons o os ih => exact fun s h => ih _ ((s.dropOrder i).runOrder_idle i j o h)

namespace ClockInputLaws

variable {s t : State}

theorem servePowerOn (h : ClockInputLaws s) (n : Nat) : ClockInputLaws (servePowerOn n s).1 := by
  unfold Machine.servePowerOn
  repeat' split
  · exact h
  · exact h
  · exact h
  · next i _ hs _ =>
    have idle : (s.slot i).state ≠ .running := by rw [not_not.1 hs]; decide
    have ordered := (runOrders i (s.mailOf i).orders s h).putSlot_idle i
      { (State.runOrders i (s.mailOf i).orders s).slot i with state := .spinUpWait } (State.runOrders_idle i i _ s idle)
    exact ordered.of_frame (by simp)

/-! ### SSQ -/

theorem serveExpiry (h : ClockInputLaws s) (i : Slot) (d : Deadline) : ClockInputLaws (s.serveExpiry i d) := by
  by_cases hd : (s.slot i).runs d
  · rw [s.serveExpiry_runs i d hd]
    exact h.mark i _ _ _ rfl rfl rfl
  · rw [s.serveExpiry_stale i d hd]
    exact h

theorem serveCredit (h : ClockInputLaws s) (i : Slot) : ClockInputLaws (s.serveCredit i) := by
  have add (n : Nat) : ClockInputLaws (s.addCredit i n) := by
    unfold State.addCredit
    dsimp only
    repeat' split
    · exact h.mark i _ _ _ rfl rfl rfl
    · exact h.putSlot_same i _ rfl rfl rfl
    · exact h
  unfold State.serveCredit
  split
  · exact add _
  · exact h

/-- A drive comes to an EMPTY slot. -/
theorem arrive (h : ClockInputLaws s) (i : Slot) (u : Bool) (he : (s.slot i).state = .empty) : ClockInputLaws (s.arrive i u) :=
  (h.putSlot_idle i _ (by rw [he]; decide)).post _ _

theorem servePresent (h : ClockInputLaws s) (i : Slot) (u : Bool) : ClockInputLaws (s.servePresent i u) := by
  have present : ClockInputLaws (s.putSlot i { s.slot i with present := true }) := h.putSlot_same i _ rfl rfl rfl
  unfold State.servePresent
  dsimp only
  split
  · next he =>
    have empty : ((s.putSlot i { s.slot i with present := true }).slot i).state = .empty := by
      rw [State.slot_putSlot_same]; exact he
    repeat' split
    · exact present.arrive i _ empty
    · exact present
    · exact present.arrive i _ empty
  · exact present

theorem loseDrive (h : ClockInputLaws s) (hw : s.waitersIdle) (i : Slot) : ClockInputLaws (s.loseDrive i) := by
  have ordered : ClockInputLaws (s.giveOrder i .release) := h.setMail i _
  unfold State.loseDrive
  dsimp only
  split
  · have left : ClockInputLaws ((s.giveOrder i .release).leaveQueue i) := ordered.of_frame (by simp)
    exact (left.clearSlot i).post _ _
  · exact ((ordered.releaseReservation hw i).clearSlot i).post _ _
  · exact (ordered.clearSlot i).post _ _

theorem serveAbsent (h : ClockInputLaws s) (hw : s.waitersIdle) (i : Slot) : ClockInputLaws (s.serveAbsent i) := by
  have absent : ClockInputLaws (s.putSlot i { s.slot i with present := false }) := h.putSlot_same i _ rfl rfl rfl
  have waiters : (s.putSlot i { s.slot i with present := false }).waitersIdle := by
    intro g j hj
    have idle : (s.slot j).state ≠ .running := hw g j hj
    rw [State.slot_putSlot]
    split
    · next e => subst e; exact idle
    · exact idle
  unfold State.serveAbsent
  dsimp only
  repeat' split
  · exact absent
  · exact absent
  · exact absent.loseDrive waiters i

theorem serveLatchOpen (h : ClockInputLaws s) (i : Slot) : ClockInputLaws (s.serveLatchOpen i) := by
  have opened : ClockInputLaws (s.putSlot i { s.slot i with closed := false }) := h.putSlot_same i _ rfl rfl rfl
  unfold State.serveLatchOpen
  dsimp only
  split
  · exact opened.setMail i _
  · exact opened.gradeToSpinDown i _ _ _
  · exact opened.gradeToSpinDown i _ _ _
  · exact opened.gradeToSpinDown i _ _ _
  · exact opened.gradeToSpinDown i _ _ _
  · exact opened

theorem serveSpunDown (h : ClockInputLaws s) (i : Slot) : ClockInputLaws (s.serveSpunDown i) := by
  unfold State.serveSpunDown
  split
  · next hs =>
    have idle : (s.slot i).state ≠ .running := by rw [hs]; decide
    split
    · exact h.putSlot_idle i _ idle
    · exact h.dispatch i idle
  · exact h

theorem serveOvertemp (h : ClockInputLaws s) (i : Slot) : ClockInputLaws (s.serveOvertemp i) := by
  unfold State.serveOvertemp
  split
  · exact (h.gradeToSpinDown i _ _ _).post _ _
  · exact h

theorem serveStartAnswer (h : ClockInputLaws s) (i : Slot) (id : Nat) (r : FetchResult) :
    ClockInputLaws (s.serveStartAnswer i id r) := by
  unfold State.serveStartAnswer
  repeat' split
  · exact h.respond _ _ _ _
  · exact h.respond _ _ _ _
  · exact (h.capture i _ _ _).respond _ _ _ _
  · exact h.of_frame (by simp)
  · exact h.respond _ _ _ _

theorem serveStageAnswer (h : ClockInputLaws s) (i : Slot) (n : Nat) (r : FetchResult) :
    ClockInputLaws (s.serveStageAnswer i n r) := by
  unfold State.serveStageAnswer
  repeat' split
  · exact h.respond _ _ _ _
  · exact (h.capture i _ _ _).respond _ _ _ _
  · exact h.respond _ _ _ _
  · exact h.respond _ _ _ _

theorem serveLimitsAnswer (h : ClockInputLaws s) (i : Slot) (r : FetchResult) : ClockInputLaws (s.serveLimitsAnswer i r) := by
  unfold State.serveLimitsAnswer
  repeat' split
  · exact h.respond _ _ _ _
  · exact (h.gradeToSpinDown i _ _ _).respond _ _ _ _
  · exact h.respond _ _ _ _
  · exact h.respond _ _ _ _

theorem serveSetSerial (h : ClockInputLaws s) (n : Nat) (cs : List Byte) : ClockInputLaws (serveSetSerial n cs s).1 := by
  unfold Machine.serveSetSerial
  repeat' split
  · exact h
  · exact h
  · exact h.putSlot_same _ _ rfl rfl rfl
  · exact h

theorem serveMeasure (h : ClockInputLaws s) (a b c : Nat) : ClockInputLaws (serveMeasure a b c s).1 := by
  unfold Machine.serveMeasure
  repeat' split
  · exact h.putSlot_same _ _ rfl rfl rfl
  · exact h
  · exact h

/-- The end of the last stage makes the slot's entry absent (R62). -/
theorem serveAdvance (h : ClockInputLaws s) (n : Nat) : ClockInputLaws (serveAdvance n s).1 := by
  unfold Machine.serveAdvance
  dsimp only
  repeat' split
  · exact h
  · exact h
  · exact h
  · exact h
  · exact (h.arm_none _).putSlot_off _ _ (tget_tset_same ..)
  · exact h.of_frame ⟨rfl, rfl, rfl⟩

theorem serveAbort (h : ClockInputLaws s) (a b : Nat) : ClockInputLaws (serveAbort a b s).1 := by
  unfold Machine.serveAbort
  dsimp only
  repeat' split
  · next i k _ _ hs =>
    refine (h.gradeSlot i _ none _).dispatch i ?_
    rw [State.gradeSlot, State.slot_putSlot_same]
    change (s.slot i).state ≠ .running
    rw [hs]
    decide
  · exact h.gradeToSpinDown _ _ _ _
  · exact h
  · exact h

/-! ### Requests (log entry 5) -/

/-- A request served by its block, refused by its link, or answered OVERRUN. -/
theorem request (h : ClockInputLaws s) (l : Link) (c : Instr) (serve : State → State × Reply)
    (hs : ClockInputLaws (serve s).1) : ClockInputLaws (s.request l c serve) := by
  rcases s.request_cases l c serve with e | e | e <;> rw [e]
  · exact hs.of_frame (by simp)
  · exact h.of_frame (by simp)
  · exact h.of_frame (by simp)

/-- Every service: those of RCK, SIF, SSQ and the blocks that write slot records, and the others, which leave these alone. -/
theorem service (h : ClockInputLaws s) (hw : s.waitersIdle) (c : Instr) : ClockInputLaws (service c s).1 := by
  cases c with
  | setTime a b => exact h.serveSetTime a b
  | setInputs a b c => exact h.serveSetInputs a b c
  | powerOn n => exact h.servePowerOn n
  | setSerial n cs => exact h.serveSetSerial n cs
  | advance n => exact h.serveAdvance n
  | measure a b c => exact h.serveMeasure a b c
  | abort a b => exact h.serveAbort a b
  | accessDone a b => exact h.serveAccessDone a b
  | quiet n => exact h.serveQuiet n
  | openTote a b c => exact h.serveOpenTote hw a b c
  | _ => exact h.of_frame (by simp [Machine.service, storeRequest_frame])

/-! ### Events: each serves what is on its way, or changes nothing (log entry 2) -/

theorem deadlineExpiry (h : ClockInputLaws s) (i : Slot) (ht : execDeadlineExpiry i s = .next t) : ClockInputLaws t := by
  unfold execDeadlineExpiry at ht
  split at ht <;> cases ht
  · exact h
  · exact (h.setMail i _).serveExpiry i _

theorem creditEvent (h : ClockInputLaws s) (i : Slot) (ht : execCreditEvent i s = .next t) : ClockInputLaws t := by
  unfold execCreditEvent at ht
  split at ht <;> cases ht
  · exact h
  · exact (h.setMail i _).serveCredit i

theorem sample (h : ClockInputLaws s) (p q : BitVec 24) (ht : execSample p q s = .next t) : ClockInputLaws t := by
  unfold execSample at ht
  split at ht <;> cases ht
  · exact h.sampleInputs p q
  · exact h

theorem presencePresentAtSsq (h : ClockInputLaws s) (i : Slot) (ht : execPresencePresentAtSsq i s = .next t) :
    ClockInputLaws t := by
  unfold execPresencePresentAtSsq at ht
  split at ht <;> cases ht
  · exact (h.setMail i _).servePresent i _
  · exact h

theorem presenceAbsentAtSsq (h : ClockInputLaws s) (hw : s.waitersIdle) (i : Slot)
    (ht : execPresenceAbsentAtSsq i s = .next t) : ClockInputLaws t := by
  unfold execPresenceAbsentAtSsq at ht
  split at ht <;> cases ht
  · exact (h.setMail i _).serveAbsent hw i
  · exact h

theorem latchOpenAtSsq (h : ClockInputLaws s) (i : Slot) (ht : execLatchOpenAtSsq i s = .next t) : ClockInputLaws t := by
  unfold execLatchOpenAtSsq at ht
  split at ht <;> cases ht
  · exact (h.setMail i _).serveLatchOpen i
  · exact h

theorem latchClosedAtSsq (h : ClockInputLaws s) (i : Slot) (ht : execLatchClosedAtSsq i s = .next t) : ClockInputLaws t := by
  unfold execLatchClosedAtSsq at ht
  split at ht <;> cases ht
  · exact (h.setMail i _).putSlot_same i _ rfl rfl rfl
  · exact h

theorem disturbanceOrder (h : ClockInputLaws s) (i : Slot) (ht : execDisturbanceOrder i s = .next t) : ClockInputLaws t := by
  unfold execDisturbanceOrder at ht
  split at ht <;> cases ht
  · exact h
  · exact (h.setMail i _).applyDisturbance i

theorem askOrder (h : ClockInputLaws s) (i : Slot) (ht : execAskOrder i s = .next t) : ClockInputLaws t := by
  unfold execAskOrder at ht
  split at ht <;> cases ht
  · exact h
  · exact (h.setMail i _).applyAsk i

theorem releaseQuietOrder (h : ClockInputLaws s) (i : Slot) (ht : execReleaseQuietOrder i s = .next t) : ClockInputLaws t := by
  unfold execReleaseQuietOrder at ht
  split at ht <;> cases ht
  · exact h
  · exact (h.setMail i _).applyRelease i

theorem overtempEvent (h : ClockInputLaws s) (i : Slot) (ht : execOvertempEvent i s = .next t) : ClockInputLaws t := by
  unfold execOvertempEvent at ht
  split at ht <;> cases ht
  · exact h
  · exact (h.setMail i _).serveOvertemp i

theorem powerOffOrder (h : ClockInputLaws s) (i : Slot) (ht : execPowerOffOrder i s = .next t) : ClockInputLaws t := by
  unfold execPowerOffOrder at ht
  split at ht <;> cases ht
  · exact (h.setMail i _).runPowerOff i _
  · exact h

theorem spinDownExpiry (h : ClockInputLaws s) (i : Slot) (ht : execSpinDownExpiry i s = .next t) : ClockInputLaws t := by
  unfold execSpinDownExpiry at ht
  split at ht <;> cases ht
  · exact (h.setMail i _).serveSpunDown i
  · exact h

theorem spinUpStartReport (h : ClockInputLaws s) (i : Slot) (ht : execSpinUpStartReport i s = .next t) : ClockInputLaws t := by
  unfold execSpinUpStartReport at ht
  repeat' split at ht
  all_goals cases ht
  · next hs =>
    have idle : (s.slot i).state ≠ .running := by rw [hs]; decide
    exact (h.setMail i _).putSlot_idle i _ idle
  · exact h.setMail i _
  · exact h

theorem spinUpExpiry (h : ClockInputLaws s) (i : Slot) (ht : execSpinUpExpiry i s = .next t) : ClockInputLaws t := by
  unfold execSpinUpExpiry at ht
  repeat' split at ht
  all_goals cases ht
  · next hs =>
    have idle : (s.slot i).state ≠ .running := by rw [hs]; decide
    exact ((h.setMail i _).putSlot_idle i _ idle).post _ _
  · exact h.setMail i _
  · exact h

theorem startFetchAnswer (h : ClockInputLaws s) (ht : execStartFetchAnswer s = .next t) : ClockInputLaws t := by
  have ended : ClockInputLaws s.endFetch := h.of_frame ⟨rfl, rfl, rfl⟩
  unfold execStartFetchAnswer at ht
  split at ht <;> cases ht
  · exact ended.serveStartAnswer _ _ _
  · exact h

theorem stageFetchAnswer (h : ClockInputLaws s) (ht : execStageFetchAnswer s = .next t) : ClockInputLaws t := by
  have ended : ClockInputLaws s.endFetch := h.of_frame ⟨rfl, rfl, rfl⟩
  unfold execStageFetchAnswer at ht
  split at ht <;> cases ht
  · exact ended.serveStageAnswer _ _ _
  · exact h

theorem limitsFetchAnswer (h : ClockInputLaws s) (ht : execLimitsFetchAnswer s = .next t) : ClockInputLaws t := by
  have ended : ClockInputLaws s.endFetch := h.of_frame ⟨rfl, rfl, rfl⟩
  unfold execLimitsFetchAnswer at ht
  split at ht <;> cases ht
  · exact ended.serveLimitsAnswer _ _
  · exact h

/-- The reset effect makes every entry absent (R29, R36). -/
theorem afterReset (cells : Vector RecipeBlock 32) (m : StoreMode) (n : Nat) (q : List Instr) :
    ClockInputLaws (State.afterReset cells m n q) :=
  (ClockInputLaws.mk clockLaws_reset inputLaws_reset).of_frame ⟨rfl, rfl, rfl⟩

/-- The events: those that write slot records, RCK or SIF, and the others, each of which leaves these alone. -/
theorem event (h : ClockInputLaws s) (hw : s.waitersIdle) (c : Instr) (hr : requestLink c = none)
    (ht : Machine.exec c s = .next t) : ClockInputLaws t := by
  cases c with
  | resetEffect => cases ht; exact afterReset _ _ _ _
  | rackTimeAdvance => cases ht; exact h.advance
  | deadlineExpiry i => exact h.deadlineExpiry i ht
  | creditEvent i => exact h.creditEvent i ht
  | sample p q => exact h.sample p q ht
  | presencePresentAtSsq i => exact h.presencePresentAtSsq i ht
  | presenceAbsentAtSsq i => exact h.presenceAbsentAtSsq hw i ht
  | latchOpenAtSsq i => exact h.latchOpenAtSsq i ht
  | latchClosedAtSsq i => exact h.latchClosedAtSsq i ht
  | disturbanceOrder i => exact h.disturbanceOrder i ht
  | askOrder i => exact h.askOrder i ht
  | releaseQuietOrder i => exact h.releaseQuietOrder i ht
  | overtempEvent i => exact h.overtempEvent i ht
  | powerOffOrder i => exact h.powerOffOrder i ht
  | spinDownExpiry i => exact h.spinDownExpiry i ht
  | spinUpStartReport i => exact h.spinUpStartReport i ht
  | spinUpExpiry i => exact h.spinUpExpiry i ht
  | startFetchAnswer => exact h.startFetchAnswer ht
  | stageFetchAnswer => exact h.stageFetchAnswer ht
  | limitsFetchAnswer => exact h.limitsFetchAnswer ht
  | requestFrame l bs => exact h.of_frame (by simp [execRequestFrame_frame s t l bs ht])
  | lengthFault l x => exact h.of_frame (by simp [execLengthFault_frame s t l x ht])
  | receivedByte l x => exact h.of_frame (by simp [execReceivedByte_frame s t l x ht])
  | frameTimeout l => exact h.of_frame (by simp [execFrameTimeout_frame s t l ht])
  | responseSent l => exact h.of_frame (by simp [execResponseSent_frame s t l ht])
  | accountingTick => exact h.of_frame (by simp [execAccountingTick_frame s t ht])
  | presenceChangeAtQac i => exact h.of_frame (by simp [execPresenceChangeAtQac_frame s t i ht])
  | spinUpTimerExpiry i => exact h.of_frame (by simp [execSpinUpTimerExpiry_frame s t i ht])
  | spinDownOrder i => exact h.of_frame (by simp [execSpinDownOrder_frame s t i ht])
  | releaseOrder i => exact h.of_frame (by simp [execReleaseOrder_frame s t i ht])
  | spinDownTimerExpiry i => exact h.of_frame (by simp [execSpinDownTimerExpiry_frame s t i ht])
  | startFetch => exact h.of_frame (by simp [execStartFetch_frame s t ht])
  | stageFetch => exact h.of_frame (by simp [execStageFetch_frame s t ht])
  | limitsFetch => exact h.of_frame (by simp [execLimitsFetch_frame s t ht])
  | captureReport i => exact h.of_frame (by simp [execCaptureReport_frame s t i ht])
  | slotChangeReport i => exact h.of_frame (by simp [execSlotChangeReport_frame s t i ht])
  | quietTimeoutExpiry r => exact h.of_frame (by simp [execQuietTimeoutExpiry_frame s t r ht])
  | holdLimitExpiry r => exact h.of_frame (by simp [execHoldLimitExpiry_frame s t r ht])
  | scanStart => exact h.of_frame (by simp [execScanStart_frame s t ht])
  | sensorReading r => exact h.of_frame (by simp [execSensorReading_frame s t r ht])
  | programCompletion q => exact h.of_frame (by simp [execProgramCompletion_frame s t q ht])
  | eraseCompletion q => exact h.of_frame (by simp [execEraseCompletion_frame s t q ht])
  | blankCheckCompletion q => exact h.of_frame (by simp [execBlankCheckCompletion_frame s t q ht])
  | lockCompletion => exact h.of_frame (by simp [execLockCompletion_frame s t ht])
  | clearBlockErasure => exact h.of_frame (by simp [execClearBlockErasure_frame s t ht])
  | clearBlockCompletion q => exact h.of_frame (by simp [execClearBlockCompletion_frame s t q ht])
  | suspensionEvent => exact h.of_frame (by simp [execSuspensionEvent_frame s t ht])
  | _ => cases hr

/-- Every command keeps the laws. -/
theorem exec (h : ClockInputLaws s) (hw : s.waitersIdle) (c : Instr) (ht : Machine.exec c s = .next t) :
    ClockInputLaws t := by
  cases hr : requestLink c with
  | some l =>
    rw [exec_request c l s hr] at ht
    cases ht
    exact h.request l c _ (h.service hw c)
  | none => exact h.event hw c hr ht

end ClockInputLaws

/-- Settles O19: every command keeps the laws of the clock and of the inputs, request by request and event by event. -/
theorem clockAndInputLawsAreKept : Obligations.ClockAndInputLawsAreKept := by
  intro s t h ht
  rcases step_cases s t ht with rfl | ⟨c, rest, -, hc⟩
  · exact ⟨h.clock, h.inputs⟩
  · have laws : ClockInputLaws { s with pending := rest } := (ClockInputLaws.mk h.clock h.inputs).of_frame ⟨rfl, rfl, rfl⟩
    have kept : ClockInputLaws t := laws.exec h.waitersIdle c hc
    exact ⟨kept.clock, kept.inputs⟩

end Sys2Proof.Machine
end

section
/-! SIF's samples, and the settings of SIF and PSQ: what one sample makes of an input and of the slot's mail (R30 to R33), what
SET INPUTS makes of the runs (R34, R35), and what SET POWER sets (R47). -/

namespace Sys2Proof.Machine

/-! ### Samples -/

theorem Polarity.reads_eq (p : Polarity) (high : Bool) : p.reads high = if p = .activeLow then !high else high := by
  cases p <;> rfl

/-- The filter after a sample: the run restarts, grows, or ends with the level accepted (R31). -/
theorem InputFilter.sample_fst (f : InputFilter) (level : Bool) : (f.sample level).1 =
    if level = f.accepted then ⟨f.accepted, 0⟩ else if f.run < 2 then ⟨f.accepted, f.run + 1⟩ else ⟨level, 0⟩ := by
  unfold InputFilter.sample
  by_cases same : level = f.accepted
  · simp only [if_pos same]
  · by_cases short : f.run < 2
    · have early : ¬ 3 ≤ f.run + 1 := by omega
      simp only [if_neg same, if_pos short, if_neg early]
    · have third : 3 ≤ f.run + 1 := by omega
      simp only [if_neg same, if_neg short, if_pos third]

/-- A sample accepts a level at its third reading in a row, and then alone (R31). -/
theorem InputFilter.sample_accepts_iff (f : InputFilter) (level : Bool) :
    (f.sample level).2 = true ↔ level ≠ f.accepted ∧ 2 ≤ f.run := by
  unfold InputFilter.sample
  by_cases same : level = f.accepted
  · simp [same]
  · by_cases third : 3 ≤ f.run + 1
    · simp only [if_neg same, if_pos third, true_iff]; exact ⟨same, by omega⟩
    · simp only [if_neg same, if_neg third, Bool.false_eq_true, false_iff]; omega

/-- The change that a sample delivers, stamped with rack time and flagged at the third sample (R32, R33). -/
theorem Sif.delivered_toList (q : Sif) (f : InputFilter) (level : Bool) (now : RackTime) :
    (q.delivered f level now).toList =
      if level ≠ f.accepted ∧ 2 ≤ f.run then [⟨level, now, decide (q.startUpCount = 2)⟩] else [] := by
  simp only [Sif.delivered, InputFilter.sample_accepts_iff]
  split <;> rfl

/-- A slot's inputs after a sample. -/
theorem Sif.filters_sampled (q : Sif) (p l : BitVec 24) (n : Nat) (i : Slot) :
    tget (q.sampled p l n).presence i = ((tget q.presence i).sample (q.presenceLevel p i)).1 ∧
    tget (q.sampled p l n).latch i = ((tget q.latch i).sample (q.latchLevel l i)).1 :=
  ⟨tget_tof .., tget_tof ..⟩

/-- A slot's mail after a sample. -/
theorem State.mailOf_sampleInputs (s : State) (p l : BitVec 24) (i : Slot) : (s.sampleInputs p l).mailOf i =
    (s.mailOf i).withChanges (s.sif.delivered (tget s.sif.presence i) (s.sif.presenceLevel p i) s.now)
      (s.sif.delivered (tget s.sif.latch i) (s.sif.latchLevel l i) s.now) := tget_tof ..

/-- Settles O20: a sample that is not due changes nothing; one that is due is read input by input. -/
theorem sampleAcceptsAtTheThirdReading : Obligations.SampleAcceptsAtTheThirdReading := by
  intro p q s
  refine ⟨fun early => if_neg (by simpa [State.reached] using early), fun due =>
    ⟨s.sampleInputs p q, if_pos (by simpa [State.reached] using due), rfl, fun i => ?_⟩⟩
  obtain ⟨presence, latch⟩ := s.sif.filters_sampled p q s.rck.osc i
  dsimp only
  rw [← Polarity.reads_eq, ← Polarity.reads_eq, ← InputFilter.sample_fst, ← InputFilter.sample_fst,
    ← Sif.delivered_toList, ← Sif.delivered_toList]
  exact ⟨presence, latch, s.mailOf_sampleInputs p q i⟩

/-! ### SET INPUTS -/

/-- The four codes of a sample interval (R34). -/
theorem intervalOf?_eq (n : Nat) : intervalOf? n = if n ≤ 3 then some ([1, 2, 5, 10].getD n 0) else none := by
  by_cases legal : n ≤ 3
  · rw [if_pos legal]
    interval_cases n <;> rfl
  · rw [if_neg legal]
    obtain ⟨m, rfl⟩ := Nat.exists_eq_add_of_lt (Nat.lt_of_not_le legal)
    rw [show 3 + m + 1 = m + 4 by omega]
    rfl

/-- The two codes of a polarity (R30). -/
theorem polarityOf?_eq (n : Nat) :
    polarityOf? n = if n ≤ 1 then some (if n = 0 then .activeLow else .activeHigh) else none := by
  match n with
  | 0 => rfl
  | 1 => rfl
  | m + 2 => rw [if_neg (by omega)]; rfl

/-- The polarity that a code of 0 or 1 names (R30). -/
def polarityOf (n : Nat) : Polarity := if n = 0 then .activeLow else .activeHigh

/-- SIF with the values that a SET INPUTS names (R34, R35). -/
def Sif.withInputs (q : Sif) (a b c : Nat) : Sif :=
  { q with
    interval := [1, 2, 5, 10].getD a 0, presencePolarity := polarityOf b, latchPolarity := polarityOf c
    presence := restartRuns q.presencePolarity (polarityOf b) q.presence
    latch := restartRuns q.latchPolarity (polarityOf c) q.latch }

/-- SET INPUTS within its ranges (R34). -/
theorem serveSetInputs_legal (a b c : Nat) (s : State) (ha : a ≤ 3) (hb : b ≤ 1) (hc : c ≤ 1) :
    serveSetInputs a b c s = ({ s with sif := s.sif.withInputs a b c }, .done []) := by
  simp only [serveSetInputs, intervalOf?_eq, polarityOf?_eq, if_pos ha, if_pos hb, if_pos hc]
  rfl

/-- SET INPUTS out of its ranges (R34). -/
theorem serveSetInputs_range (a b c : Nat) (s : State) (h : 3 < a ∨ 1 < b ∨ 1 < c) :
    serveSetInputs a b c s = (s, .refuse .range) := by
  unfold serveSetInputs
  split
  · next ha hb hc =>
    simp only [intervalOf?_eq, polarityOf?_eq, Option.ite_none_right_eq_some] at ha hb hc
    omega
  · rfl

/-- A polarity that changes restarts the runs of its group; one that stays leaves them (R35). -/
theorem tget_restartRuns (old new : Polarity) (group : Vector InputFilter 24) (i : Slot) :
    tget (restartRuns old new group) i = { tget group i with run := if new = old then (tget group i).run else 0 } := by
  unfold restartRuns
  split
  · rfl
  · exact tget_tof ..

/-! ### SET POWER -/

/-- SET POWER within its ranges (R47). -/
theorem serveSetPower_legal (b u d : Nat) (s : State)
    (h : 1 ≤ b ∧ b ≤ 8 ∧ 2 ≤ u ∧ u ≤ 30 ∧ 2 ≤ d ∧ d ≤ 30) : serveSetPower b u d s =
    ({ s with psq := { s.psq with budget := b, upTime := u, downTime := d } }.lookAtQueue, .done []) := by
  obtain ⟨b1, b8, u2, u30, hd⟩ := h
  simp only [serveSetPower, natIn?_in ⟨b1, b8⟩, natIn?_in ⟨u2, u30⟩, natIn?_in hd]

/-- SET POWER out of its ranges (R47). -/
theorem serveSetPower_range (b u d : Nat) (s : State)
    (h : ¬ (1 ≤ b ∧ b ≤ 8 ∧ 2 ≤ u ∧ u ≤ 30 ∧ 2 ≤ d ∧ d ≤ 30)) : serveSetPower b u d s = (s, .refuse .range) := by
  unfold serveSetPower
  split
  · next hb hu hd =>
    obtain ⟨b1, b8⟩ := (natIn?_some hb).2
    obtain ⟨u2, u30⟩ := (natIn?_some hu).2
    exact absurd ⟨b1, b8, u2, u30, (natIn?_some hd).2⟩ h
  · rfl

/-- Settles O25: each request sets its values when all lie in their ranges, and is refused otherwise. -/
theorem setPowerAndSetInputs : Obligations.SetPowerAndSetInputs := by
  refine ⟨fun b u d s hr => ?_, fun a b c s hr => ⟨fun h => ?_, fun ha hb hc => ?_⟩⟩
  · split
    · next h =>
      exact exec_ready_now _ .line s _ .done [] rfl hr (serveSetPower_legal b u d s h) (by simp [State.link])
    · next h => exact exec_ready_refused _ .line s .range rfl hr (serveSetPower_range b u d s h)
  · exact exec_ready_refused _ .line s .range rfl hr (serveSetInputs_range a b c s h)
  · exact ⟨s.sif.withInputs a b c,
      exec_ready_now _ .line s _ .done [] rfl hr (serveSetInputs_legal a b c s ha hb hc) rfl, rfl,
      fun i => ⟨tget_restartRuns .., tget_restartRuns ..⟩⟩

end Sys2Proof.Machine
end

section
/-! The look at the start conditions (R38): which slots start, in what order, and what each start writes. -/

namespace Sys2Proof.Machine

/-! ### Reports -/

/-- A slot's mail with one more report to SSQ on its way. -/
def Mail.withReport (m : Mail) (r : PowerReport) : Mail := { m with reports := m.reports ++ [r] }

@[simp] theorem State.mailOf_giveReport_same (s : State) (i : Slot) (r : PowerReport) :
    (s.giveReport i r).mailOf i = (s.mailOf i).withReport r := s.mailOf_setMail_same i _

theorem State.mailOf_giveReport_ne (s : State) (i j : Slot) (r : PowerReport) (h : j ≠ i) :
    (s.giveReport i r).mailOf j = s.mailOf j := tget_tset_ne _ _ _ _ h

/-- A report for each slot of a list changes the mail alone. -/
theorem giveReports_eq (js : List Slot) (r : PowerReport) : ∀ s : State, js.foldl (fun t i => t.giveReport i r) s =
    { s with mail := (js.foldl (fun t i => t.giveReport i r) s).mail } := by
  induction js with
  | nil => exact fun _ => rfl
  | cons i js ih => exact fun s => ih (s.giveReport i r)

/-- Each slot of the list gets one report. -/
theorem giveReports_mailOf (js : List Slot) (r : PowerReport) (j : Slot) : ∀ s : State, js.Nodup →
    (js.foldl (fun t i => t.giveReport i r) s).mailOf j = if j ∈ js then (s.mailOf j).withReport r else s.mailOf j := by
  induction js with
  | nil => exact fun _ _ => rfl
  | cons i js ih =>
    intro s once
    obtain ⟨fresh, once⟩ := List.nodup_cons.1 once
    rw [List.foldl_cons, ih _ once]
    by_cases e : j = i
    · subst e
      simp only [fresh, if_false, List.mem_cons_self, if_true, State.mailOf_giveReport_same]
    · simp only [List.mem_cons, e, false_or, s.mailOf_giveReport_ne i j r e]

/-! ### Starts -/

/-- How many slots of a queue start: as many as lanes are free below the budget (R38). -/
def Psq.startable (p : Psq) (q : List Slot) : Nat := min q.length (p.budget - p.lanes)

/-- With a lane free the head starts, and then as many of the rest as lanes remain. -/
theorem Psq.startable_cons (p : Psq) (osc : Nat) (i : Slot) (rest : List Slot) (h : p.lanes < p.budget) :
    p.startable (i :: rest) = (p.startSlot osc i rest).startable rest + 1 := by
  simp only [startable, startSlot, List.length_cons]; omega

/-- The slots started are the head of the queue; the queue and the lanes follow (R38). -/
theorem Psq.startAll_eq (osc : Nat) (q : List Slot) : ∀ p : Psq, p.queue = q → Psq.startAll osc q p =
    ({ p with
        slots := (Psq.startAll osc q p).1.slots
        queue := q.drop (p.startable q), lanes := p.lanes + p.startable q }, q.take (p.startable q)) := by
  induction q with
  | nil =>
    intro p hq
    have noStart : p.startable [] = 0 := Nat.zero_min _
    rw [noStart]
    cases p
    cases hq
    rfl
  | cons i rest ih =>
    intro p hq
    by_cases lane : p.lanes < p.budget
    · have head : startAll osc (i :: rest) p = ((startAll osc rest (p.startSlot osc i rest)).1,
          i :: (startAll osc rest (p.startSlot osc i rest)).2) := if_pos lane
      have lanes : p.lanes + p.startable (i :: rest) = p.lanes + 1 + (p.startSlot osc i rest).startable rest := by
        rw [p.startable_cons osc i rest lane]; omega
      obtain ⟨left, started⟩ := Prod.ext_iff.1 (ih (p.startSlot osc i rest) rfl)
      rw [head, lanes, p.startable_cons osc i rest lane]
      exact Prod.ext left (congrArg (i :: ·) started)
    · have noStart : p.startable (i :: rest) = 0 := by simp only [startable]; omega
      have stay : startAll osc (i :: rest) p = (p, []) := if_neg lane
      rw [noStart, stay, List.drop_zero, ← hq]
      rfl

/-- Each slot started is in SPINUP with its timer running; every other keeps its record (R38). -/
theorem Psq.slots_startAll (osc : Nat) (q : List Slot) (j : Slot) : ∀ p : Psq,
    tget (Psq.startAll osc q p).1.slots j =
      if j ∈ (Psq.startAll osc q p).2 then ⟨.spinUp, true, some (osc + p.upTime * 1000)⟩ else tget p.slots j := by
  induction q with
  | nil => exact fun _ => rfl
  | cons i rest ih =>
    intro p
    by_cases lane : p.lanes < p.budget
    · have head : startAll osc (i :: rest) p = ((startAll osc rest (p.startSlot osc i rest)).1,
          i :: (startAll osc rest (p.startSlot osc i rest)).2) := if_pos lane
      have first : tget (p.startSlot osc i rest).slots j =
          if j = i then ⟨.spinUp, true, some (osc + p.upTime * 1000)⟩ else tget p.slots j := tget_tset ..
      have time : (p.startSlot osc i rest).upTime = p.upTime := rfl
      rw [head, ih, first, time]
      by_cases e : j = i
      · simp only [e, if_true, ite_self, List.mem_cons_self]
      · simp only [e, if_false, List.mem_cons, false_or]
    · have stay : startAll osc (i :: rest) p = (p, []) := if_neg lane
      rw [stay]
      rfl

/-! ### The look -/

/-- A look at the queue changes PSQ and the mail. -/
theorem State.lookAtQueue_eq (s : State) : s.lookAtQueue = { s with
    psq := (Psq.startAll s.rck.osc s.psq.queue s.psq).1, mail := s.lookAtQueue.mail } :=
  giveReports_eq (Psq.startAll s.rck.osc s.psq.queue s.psq).2 .started
    { s with psq := (Psq.startAll s.rck.osc s.psq.queue s.psq).1 }

/-- Settles O21: the starts are the head of the queue, each with its record and its report. -/
theorem spinUpsStartFromTheQueueHead : Obligations.SpinUpsStartFromTheQueueHead := by
  intro s once
  obtain ⟨left, started⟩ := Prod.ext_iff.1 (Psq.startAll_eq s.rck.osc s.psq.queue s.psq rfl)
  have power (i : Slot) : s.lookAtQueue.power i =
      if i ∈ s.psq.queue.take (s.psq.startable s.psq.queue) then
        ⟨.spinUp, true, some (s.rck.osc + s.psq.upTime * 1000)⟩ else s.power i := by
    rw [State.power, s.lookAtQueue_psq, Psq.slots_startAll, started]
    rfl
  have mail (i : Slot) : s.lookAtQueue.mailOf i =
      if i ∈ s.psq.queue.take (s.psq.startable s.psq.queue) then (s.mailOf i).withReport .started else s.mailOf i := by
    rw [State.lookAtQueue, started]
    exact giveReports_mailOf _ _ i _ (once.sublist (List.take_sublist ..))
  refine ⟨?_, fun i => ⟨fun h => ⟨(power i).trans (if_pos h), (mail i).trans (if_pos h)⟩,
    fun h => ⟨(power i).trans (if_neg h), (mail i).trans (if_neg h)⟩⟩⟩
  have look := s.lookAtQueue_eq
  rw [left] at look
  rw [s.lookAtQueue_psq]
  exact look

end Sys2Proof.Machine
end

section
/-! PSQ's requests, orders, timers and reports, each as the one update it makes (R37 to R46, R73). -/

namespace Sys2Proof.Machine

/-! ### POWER ON and POWER OFF (R37, R41) -/

/-- The slot waits for its spin-up, at the tail of PSQ's queue, which PSQ then looks at (R37). -/
def State.joinQueue (u : State) (i : Slot) : State :=
  let v := u.putSlot i { u.slot i with state := .spinUpWait }
  { v with psq := v.psq.enqueue i }.lookAtQueue

/-- A slot whose phase is OFF becomes QUEUED, and joins the queue. -/
theorem State.joinQueue_off (u : State) (i : Slot) (off : (u.power i).phase = .off) :
    let v := u.putSlot i { u.slot i with state := .spinUpWait }
    u.joinQueue i = { v with psq := { v.psq with
      slots := tset v.psq.slots i ⟨.queued, false, none⟩, queue := v.psq.queue ++ [i] } }.lookAtQueue := by
  intro v
  have queued : v.psq.enqueue i =
      { v.psq with slots := tset v.psq.slots i ⟨.queued, false, none⟩, queue := v.psq.queue ++ [i] } := if_pos off
  rw [← queued]
  rfl

theorem KeepsHeld.joinQueue {s u : State} (h : KeepsHeld s u) (i : Slot) : KeepsHeld s (u.joinQueue i) :=
  ((h.putSlot i _).setPsq _).lookAtQueue

theorem servePowerOn_range (n : Nat) (s : State) (h : 24 ≤ n) : servePowerOn n s = (s, .refuse .range) := by
  simp only [servePowerOn, slotOf?_none h]

theorem servePowerOn_wrongState (i : Slot) (s : State) (h : (s.slot i).state ≠ .loaded ∨ (s.slot i).closed = false) :
    servePowerOn i.val s = (s, .refuse .wrongState) := by
  simp only [servePowerOn, slotOf?_val]
  by_cases loaded : (s.slot i).state = .loaded
  · rw [if_neg (not_not.2 loaded), if_pos (h.resolve_left (not_not.2 loaded))]
  · rw [if_pos loaded]

/-- POWER ON of a LOADED slot with its latch shut: PSQ serves the earlier orders first (3.4). -/
theorem servePowerOn_loaded (i : Slot) (s : State) (hl : (s.slot i).state = .loaded) (hc : (s.slot i).closed = true) :
    servePowerOn i.val s = ((State.runOrders i (s.mailOf i).orders s).joinQueue i, .done []) := by
  simp only [servePowerOn, slotOf?_val, if_neg (not_not.2 hl), hc, Bool.true_eq_false, if_false]
  rfl

theorem servePowerOff_range (n : Nat) (s : State) (h : 24 ≤ n) : servePowerOff n s = (s, .refuse .range) := by
  simp only [servePowerOff, slotOf?_none h]

theorem servePowerOff_slot (i : Slot) (s : State) : servePowerOff i.val s =
    if (s.slot i).state = .spinUpWait ∨ (s.slot i).state = .spinUp ∨ (s.slot i).state = .ready then
      (s.giveOrder i (.powerOff true), .later)
    else (s, .refuse .wrongState) := by
  simp only [servePowerOff, slotOf?_val]

/-- Settles O22: each request by its checks in order. -/
theorem powerOnAndPowerOff : Obligations.PowerOnAndPowerOff := by
  refine ⟨fun n s hr => ⟨fun h => exec_ready_refused _ .test s .range rfl hr (servePowerOn_range n s h), ?_⟩,
    fun n s hr => ⟨fun h => exec_ready_refused _ .test s .range rfl hr (servePowerOff_range n s h), ?_⟩⟩
  · rintro i rfl
    refine ⟨fun h => exec_ready_refused _ .test s .wrongState rfl hr (servePowerOn_wrongState i s h), ?_⟩
    intro loaded shut noOff u v off
    have kept : KeepsHeld s (u.joinQueue i) :=
      (KeepsHeld.runOrders i (s.mailOf i).orders noOff s (KeepsHeld.refl s) noOff).joinQueue i
    rw [← u.joinQueue_off i off]
    exact exec_ready_now _ .test s _ .done [] rfl hr (servePowerOn_loaded i s loaded shut) (kept.output .test)
  · rintro i rfl
    have served := servePowerOff_slot i s
    dsimp only
    split
    · next h =>
      rw [if_pos h] at served
      exact congrArg Host.Outcome.next (State.request_later s _ .test _ _ hr served)
    · next h =>
      rw [if_neg h] at served
      exact exec_ready_refused _ .test s .wrongState rfl hr served

/-! ### Orders (R42, R44, R46) -/

/-- The slot record that the outcome of a power-off order leaves (R42). -/
def PowerOutcome.record (o : PowerOutcome) (r : SlotRecord) : SlotRecord :=
  match o with
  | .withdrawn => { r with state := .loaded }
  | .spinningDown => { r with state := .spinDown, exit := .loaded }

/-- SSQ takes an outcome where the slot is still in one of the three states of R41 (R42, R50). -/
theorem State.takeOutcome_eq (s : State) (i : Slot) (o : PowerOutcome) : s.takeOutcome i o =
    if (s.slot i).state = .spinUpWait ∨ (s.slot i).state = .spinUp ∨ (s.slot i).state = .ready then
      s.putSlot i (o.record (s.slot i))
    else s := by
  cases o <;> rfl

/-- The look at the queue leaves the slot records. -/
theorem State.slot_lookAtQueue (s : State) (i : Slot) : s.lookAtQueue.slot i = s.slot i := by
  simp [State.slot]

/-- A power-off order: PSQ's part and the look, the outcome at SSQ, the answer (R42). -/
theorem State.runPowerOff_eq (s : State) (i : Slot) (q : Bool) :
    let x := s.psq.servePowerOff s.rck.osc i
    let v := { s with psq := x.1 }.lookAtQueue
    let w := if (s.slot i).state = .spinUpWait ∨ (s.slot i).state = .spinUp ∨ (s.slot i).state = .ready then
      v.putSlot i (x.2.record (s.slot i)) else v
    s.runPowerOff i q = if q then w.respond .test 0x11 .done [] else w := by
  intro x v w
  have slot : v.slot i = s.slot i := State.slot_lookAtQueue _ i
  have outcome : v.takeOutcome i x.2 = w := by rw [v.takeOutcome_eq, slot]
  rw [← outcome]
  rfl

theorem execPowerOffOrder_cons (i : Slot) (s : State) (q : Bool) (rest : List PowerOrder)
    (h : (s.mailOf i).orders = .powerOff q :: rest) : execPowerOffOrder i s = .next ((s.dropOrder i).runPowerOff i q) := by
  simp only [execPowerOffOrder, h, List.head?_cons]

theorem execSpinDownOrder_cons (i : Slot) (s : State) (rest : List PowerOrder)
    (h : (s.mailOf i).orders = .spinDown :: rest) : execSpinDownOrder i s = .next ((s.dropOrder i).runSpinDown i) := by
  simp only [execSpinDownOrder, h, List.head?_cons]

theorem execReleaseOrder_cons (i : Slot) (s : State) (rest : List PowerOrder)
    (h : (s.mailOf i).orders = .release :: rest) : execReleaseOrder i s = .next ((s.dropOrder i).runRelease i) := by
  simp only [execReleaseOrder, h, List.head?_cons]

/-- Settles O23: each order, phase by phase. -/
theorem powerOrdersCutByPhase : Obligations.PowerOrdersCutByPhase := by
  intro i s
  have phase : (tget (s.dropOrder i).psq.slots i).phase = (s.power i).phase := rfl
  refine ⟨fun q rest h => (execPowerOffOrder_cons i s q rest h).trans ?_,
    fun rest h => (execSpinDownOrder_cons i s rest h).trans ?_, fun rest h => (execReleaseOrder_cons i s rest h).trans ?_⟩
  · rw [State.runPowerOff_eq, Psq.servePowerOff, phase]
    cases (s.power i).phase <;> rfl
  · rw [State.runSpinDown, Psq.serveSpinDown, phase]
    cases (s.power i).phase <;> rfl
  · rw [State.runRelease, Psq.serveRelease, phase]
    cases (s.power i).phase <;> rfl

/-! ### Timers and reports (R38, R39, R45, R73) -/

/-- A running timer is due once the oscillator has reached its count. -/
theorem State.timerDue_some (s : State) (n : Nat) : s.timerDue (some n) = true ↔ n ≤ s.rck.osc := by
  simp [State.timerDue, State.reached]

/-- The power timer of a slot before its expiry. -/
theorem State.not_timerDue (s : State) {i : Slot} {due : Nat} (ht : (s.power i).timer = some due) (h : s.rck.osc < due) :
    ¬ s.timerDue (s.power i).timer = true := by
  rw [ht, s.timerDue_some]
  exact not_le.2 h

/-- The oldest report taken off a slot's mail. -/
theorem State.dropReport_cons (s : State) (i : Slot) {r : PowerReport} {rest : List PowerReport}
    (h : (s.mailOf i).reports = r :: rest) : s.dropReport i = s.setMail i { s.mailOf i with reports := rest } := by
  rw [State.dropReport, h, List.tail_cons]

/-- SSQ's service of a spin-down expiry, by the slot's exit (R73). -/
theorem State.serveSpunDown_eq (s : State) (i : Slot) : s.serveSpunDown i =
    if (s.slot i).state = .spinDown then
      if (s.slot i).exit = .loaded then s.putSlot i { s.slot i with state := .loaded } else s.dispatch i
    else s := by
  unfold State.serveSpunDown
  cases (s.slot i).exit <;> rfl

/-- Settles O24: the timers at PSQ, then the three reports at SSQ. -/
theorem powerTimersAndReports : Obligations.PowerTimersAndReports := by
  refine ⟨fun i s due ht => ⟨fun h => ⟨if_neg fun up => s.not_timerDue ht h up.2, if_neg fun down => s.not_timerDue ht h down.2⟩,
    fun h up => ?_, fun h down => ?_⟩, fun i s rest => ⟨fun h => ?_, fun h => ?_, fun h => ?_⟩⟩
  · exact if_pos ⟨up, by rw [ht, s.timerDue_some]; exact h⟩
  · exact if_pos ⟨down, by rw [ht, s.timerDue_some]; exact h⟩
  · change execSpinUpStartReport i s = _
    simp only [execSpinUpStartReport, h, List.head?_cons, s.dropReport_cons i h]
    split <;> rfl
  · change execSpinUpExpiry i s = _
    simp only [execSpinUpExpiry, h, List.head?_cons, s.dropReport_cons i h]
    split <;> rfl
  · change execSpinDownExpiry i s = _
    simp only [execSpinDownExpiry, h, List.head?_cons, s.dropReport_cons i h, State.serveSpunDown_eq]
    rfl

end Sys2Proof.Machine
end

section
/-! Every step keeps the laws of the power sequencer (3.4, R38): what reaches PSQ keeps its core laws and ends with a look at the
queue, or leaves the queue and the lanes alone; everything else leaves PSQ alone. -/

namespace Sys2Proof.Machine

/-- New settings within their ranges; the look that follows them restores `looked` (R47). -/
theorem PowerCore.setPower {p : Psq} (h : PowerCore p) {b u d : Nat} (hb : 1 ≤ b ∧ b ≤ 8) (hu : 2 ≤ u ∧ u ≤ 30)
    (hd : 2 ≤ d ∧ d ≤ 30) : PowerCore { p with budget := b, upTime := u, downTime := d } :=
  ⟨h.queueOnce, h.queued, h.lanes, h.output, h.timer, hb, hu.1, hu.2, hd⟩

namespace PowerLaws

variable {s t : State}

theorem of_frame (h : PowerLaws s.psq) (e : t.psq = s.psq) : PowerLaws t.psq := e ▸ h

/-! ### Requests -/

theorem servePowerOn (h : PowerLaws s.psq) (n : Nat) : PowerLaws (servePowerOn n s).1.psq := by
  unfold Machine.servePowerOn
  repeat' split
  · exact h
  · exact h
  · exact h
  · next i _ _ _ =>
    have served : PowerCore (State.runOrders i (s.mailOf i).orders s).psq := State.runOrders_core i _ s h.core
    exact State.lookAtQueue_laws _ (served.enqueue i)

theorem serveSetPower (h : PowerLaws s.psq) (a b c : Nat) : PowerLaws (serveSetPower a b c s).1.psq := by
  unfold Machine.serveSetPower
  split
  · next hb hu hd =>
    obtain ⟨rfl, hb⟩ := natIn?_some hb
    obtain ⟨rfl, hu⟩ := natIn?_some hu
    obtain ⟨rfl, hd⟩ := natIn?_some hd
    exact State.lookAtQueue_laws _ (h.core.setPower hb hu hd)
  · exact h

/-- Every service: POWER ON and SET POWER change PSQ, the others leave it alone. -/
theorem service (h : PowerLaws s.psq) (c : Instr) : PowerLaws (service c s).1.psq := by
  cases c with
  | powerOn n => exact h.servePowerOn n
  | setPower a b c => exact h.serveSetPower a b c
  | _ => exact h.of_frame (by simp [Machine.service, storeRequest_frame])

/-- A request served by its block, refused by its link, or answered OVERRUN. -/
theorem request (h : PowerLaws s.psq) (l : Link) (c : Instr) (serve : State → State × Reply)
    (hs : PowerLaws (serve s).1.psq) : PowerLaws (s.request l c serve).psq := by
  rcases s.request_cases l c serve with e | e | e <;> rw [e]
  · exact hs.of_frame (by simp)
  · exact h.of_frame (by simp)
  · exact h.of_frame (by simp)

/-! ### Orders and timers -/

/-- An order that reaches PSQ, taken off the mail first. -/
theorem runOrder (h : PowerLaws s.psq) (i : Slot) (o : PowerOrder) : PowerLaws ((s.dropOrder i).runOrder i o).psq :=
  State.runOrder_laws _ i o h.core

theorem powerOffOrder (h : PowerLaws s.psq) (i : Slot) (ht : execPowerOffOrder i s = .next t) : PowerLaws t.psq := by
  unfold execPowerOffOrder at ht
  split at ht <;> cases ht
  · next q _ => exact h.runOrder i (.powerOff q)
  · exact h

theorem spinDownOrder (h : PowerLaws s.psq) (i : Slot) (ht : execSpinDownOrder i s = .next t) : PowerLaws t.psq := by
  unfold execSpinDownOrder at ht
  split at ht <;> cases ht
  · exact h.runOrder i .spinDown
  · exact h

theorem releaseOrder (h : PowerLaws s.psq) (i : Slot) (ht : execReleaseOrder i s = .next t) : PowerLaws t.psq := by
  unfold execReleaseOrder at ht
  split at ht <;> cases ht
  · exact h.runOrder i .release
  · exact h

theorem spinUpTimerExpiry (h : PowerLaws s.psq) (i : Slot) (ht : execSpinUpTimerExpiry i s = .next t) : PowerLaws t.psq := by
  unfold execSpinUpTimerExpiry at ht
  split at ht <;> cases ht
  · next due => exact State.lookAtQueue_laws _ (h.core.spunUp i due.1)
  · exact h

/-- A spin-down that ends changes neither the queue nor the lanes, so no look is due (R45). -/
theorem spinDownTimerExpiry (h : PowerLaws s.psq) (i : Slot) (ht : execSpinDownTimerExpiry i s = .next t) :
    PowerLaws t.psq := by
  unfold execSpinDownTimerExpiry at ht
  split at ht <;> cases ht
  · next due =>
    have down : (tget s.psq.slots i).phase = .spinDown := due.1
    have off : PowerCore (s.psq.putOff i) := h.core.putOff i (by simp [down]) (by simp [down])
    exact off.laws h.looked
  · exact h

/-- The events: those that reach PSQ, the reset effect (R48), and the others, each of which leaves PSQ alone. -/
theorem event (h : PowerLaws s.psq) (c : Instr) (hr : requestLink c = none) (ht : Machine.exec c s = .next t) :
    PowerLaws t.psq := by
  cases c with
  | powerOffOrder i => exact h.powerOffOrder i ht
  | spinDownOrder i => exact h.spinDownOrder i ht
  | releaseOrder i => exact h.releaseOrder i ht
  | spinUpTimerExpiry i => exact h.spinUpTimerExpiry i ht
  | spinDownTimerExpiry i => exact h.spinDownTimerExpiry i ht
  | resetEffect => cases ht; exact powerLaws_reset
  | rackTimeAdvance => exact h.of_frame (by simp [execRackTimeAdvance_frame s t ht])
  | deadlineExpiry i => exact h.of_frame (by simp [execDeadlineExpiry_frame s t i ht])
  | creditEvent i => exact h.of_frame (by simp [execCreditEvent_frame s t i ht])
  | sample p q => exact h.of_frame (by simp [execSample_frame s t p q ht])
  | presencePresentAtSsq i => exact h.of_frame (by simp [execPresencePresentAtSsq_frame s t i ht])
  | presenceAbsentAtSsq i => exact h.of_frame (by simp [execPresenceAbsentAtSsq_frame s t i ht])
  | latchOpenAtSsq i => exact h.of_frame (by simp [execLatchOpenAtSsq_frame s t i ht])
  | latchClosedAtSsq i => exact h.of_frame (by simp [execLatchClosedAtSsq_frame s t i ht])
  | disturbanceOrder i => exact h.of_frame (by simp [execDisturbanceOrder_frame s t i ht])
  | askOrder i => exact h.of_frame (by simp [execAskOrder_frame s t i ht])
  | releaseQuietOrder i => exact h.of_frame (by simp [execReleaseQuietOrder_frame s t i ht])
  | overtempEvent i => exact h.of_frame (by simp [execOvertempEvent_frame s t i ht])
  | spinDownExpiry i => exact h.of_frame (by simp [execSpinDownExpiry_frame s t i ht])
  | spinUpStartReport i => exact h.of_frame (by simp [execSpinUpStartReport_frame s t i ht])
  | spinUpExpiry i => exact h.of_frame (by simp [execSpinUpExpiry_frame s t i ht])
  | startFetchAnswer => exact h.of_frame (by simp [execStartFetchAnswer_frame s t ht])
  | stageFetchAnswer => exact h.of_frame (by simp [execStageFetchAnswer_frame s t ht])
  | limitsFetchAnswer => exact h.of_frame (by simp [execLimitsFetchAnswer_frame s t ht])
  | requestFrame l bs => exact h.of_frame (by simp [execRequestFrame_frame s t l bs ht])
  | lengthFault l x => exact h.of_frame (by simp [execLengthFault_frame s t l x ht])
  | receivedByte l x => exact h.of_frame (by simp [execReceivedByte_frame s t l x ht])
  | frameTimeout l => exact h.of_frame (by simp [execFrameTimeout_frame s t l ht])
  | responseSent l => exact h.of_frame (by simp [execResponseSent_frame s t l ht])
  | accountingTick => exact h.of_frame (by simp [execAccountingTick_frame s t ht])
  | presenceChangeAtQac i => exact h.of_frame (by simp [execPresenceChangeAtQac_frame s t i ht])
  | startFetch => exact h.of_frame (by simp [execStartFetch_frame s t ht])
  | stageFetch => exact h.of_frame (by simp [execStageFetch_frame s t ht])
  | limitsFetch => exact h.of_frame (by simp [execLimitsFetch_frame s t ht])
  | captureReport i => exact h.of_frame (by simp [execCaptureReport_frame s t i ht])
  | slotChangeReport i => exact h.of_frame (by simp [execSlotChangeReport_frame s t i ht])
  | quietTimeoutExpiry r => exact h.of_frame (by simp [execQuietTimeoutExpiry_frame s t r ht])
  | holdLimitExpiry r => exact h.of_frame (by simp [execHoldLimitExpiry_frame s t r ht])
  | scanStart => exact h.of_frame (by simp [execScanStart_frame s t ht])
  | sensorReading r => exact h.of_frame (by simp [execSensorReading_frame s t r ht])
  | programCompletion q => exact h.of_frame (by simp [execProgramCompletion_frame s t q ht])
  | eraseCompletion q => exact h.of_frame (by simp [execEraseCompletion_frame s t q ht])
  | blankCheckCompletion q => exact h.of_frame (by simp [execBlankCheckCompletion_frame s t q ht])
  | lockCompletion => exact h.of_frame (by simp [execLockCompletion_frame s t ht])
  | clearBlockErasure => exact h.of_frame (by simp [execClearBlockErasure_frame s t ht])
  | clearBlockCompletion q => exact h.of_frame (by simp [execClearBlockCompletion_frame s t q ht])
  | suspensionEvent => exact h.of_frame (by simp [execSuspensionEvent_frame s t ht])
  | _ => cases hr

/-- Every command keeps the laws. -/
theorem exec (h : PowerLaws s.psq) (c : Instr) (ht : Machine.exec c s = .next t) : PowerLaws t.psq := by
  cases hr : requestLink c with
  | some l =>
    rw [exec_request c l s hr] at ht
    cases ht
    exact h.request l c _ (h.service c)
  | none => exact h.event c hr ht

end PowerLaws

/-- Settles O26: every command keeps the laws of PSQ, request by request and event by event. -/
theorem powerLawsAreKept : Obligations.PowerLawsAreKept := by
  intro s t h ht
  rcases step_cases s t ht with rfl | ⟨c, rest, -, hc⟩
  · exact h
  · exact PowerLaws.exec (s := { s with pending := rest }) h c hc

end Sys2Proof.Machine
end

section
/-! Presence and latch changes at SSQ (R43, R49, R51, R52, R68, R70): each change as the updates it makes. -/

namespace Sys2Proof.Machine

/-! ### QAC's answer to SSQ -/

theorem AccessRecord.grantsAction_iff (r : AccessRecord) (i : Slot) (a : Action) :
    r.grantsAction i a = true ↔ ∃ u p o, r = .granted u p o ∧ u.target = i ∧ u.action = a := by
  cases r <;> simp [AccessRecord.grantsAction]

/-- A GRANTED record with this action targets the slot (R51, R70). -/
theorem State.grantedFor_iff (s : State) (i : Slot) (a : Action) : s.grantedFor i a = true ↔
    ∃ k u p o, tget s.qac.records k = .granted u p o ∧ u.target = i ∧ u.action = a := by
  simp only [State.grantedFor, Bool.or_eq_true, AccessRecord.grantsAction_iff, Fin.exists_fin_two]

/-! ### Orders on their way -/

/-- SSQ's report of a change to QAC leaves the orders to PSQ. -/
@[simp] theorem State.orders_putSlot (s : State) (i j : Slot) (r : SlotRecord) :
    ((s.putSlot i r).mailOf j).orders = (s.mailOf j).orders := by
  rw [s.mailOf_putSlot]
  split <;> rfl

/-- An entry made absent sends no expiry. -/
theorem State.mailOf_arm_none (s : State) (i j : Slot) : (s.arm i none).mailOf j = s.mailOf j := by
  have same : (s.arm i none).mailOf j = if j = i then s.mailOf i else s.mailOf j := tget_tset ..
  rw [same]
  split
  · next e => rw [e]
  · rfl

/-- A grading leaves the orders to PSQ. -/
@[simp] theorem State.orders_gradeSlot (s : State) (i j : Slot) (r : SlotRecord) (l : Option Limits) (n : Nat) :
    ((s.gradeSlot i r l n).mailOf j).orders = (s.mailOf j).orders := by
  have noted : (((s.releaseRefOf r).arm i none).setNote i (some r.note)).mailOf j = s.mailOf j :=
    (State.mailOf_arm_none _ i j).trans (by simp [State.mailOf])
  rw [State.gradeSlot, State.orders_putSlot, noted]

/-! ### The oldest change on its way -/

theorem execPresencePresentAtSsq_cons (i : Slot) (s : State) {stamp : RackTime} {startUp : Bool} {rest : List InputChange}
    (h : (s.mailOf i).presenceToSsq = ⟨true, stamp, startUp⟩ :: rest) : execPresencePresentAtSsq i s =
      .next ((s.setMail i { s.mailOf i with presenceToSsq := rest }).servePresent i startUp) := by
  simp only [execPresencePresentAtSsq, h]

theorem execPresenceAbsentAtSsq_cons (i : Slot) (s : State) {stamp : RackTime} {startUp : Bool} {rest : List InputChange}
    (h : (s.mailOf i).presenceToSsq = ⟨false, stamp, startUp⟩ :: rest) : execPresenceAbsentAtSsq i s =
      .next ((s.setMail i { s.mailOf i with presenceToSsq := rest }).serveAbsent i) := by
  simp only [execPresenceAbsentAtSsq, h]

theorem execLatchClosedAtSsq_cons (i : Slot) (s : State) {stamp : RackTime} {startUp : Bool} {rest : List InputChange}
    (h : (s.mailOf i).latchToSsq = ⟨true, stamp, startUp⟩ :: rest) : execLatchClosedAtSsq i s =
      .next ((s.setMail i ((s.mailOf i).takeLatch rest)).serveLatchClosed i) := by
  simp only [execLatchClosedAtSsq, h]

theorem execLatchOpenAtSsq_cons (i : Slot) (s : State) {stamp : RackTime} {startUp : Bool} {rest : List InputChange}
    (h : (s.mailOf i).latchToSsq = ⟨false, stamp, startUp⟩ :: rest) : execLatchOpenAtSsq i s =
      .next ((s.setMail i ((s.mailOf i).takeLatch rest)).serveLatchOpen i) := by
  simp only [execLatchOpenAtSsq, h]

/-! ### A drive arrives (R51) -/

/-- The slot that has just been written becomes LOADED. -/
theorem State.arrive_putSlot (s : State) (i : Slot) (r : SlotRecord) (q : Bool) : (s.putSlot i r).arrive i q =
    ((s.putSlot i r).putSlot i { r with state := .loaded, ungranted := q, loadedAt := some s.now }).post .loaded i.val := by
  rw [State.arrive, State.slot_putSlot_same]
  rfl

/-- A change to PRESENT: the switch, and the arrival in an EMPTY slot (R51). -/
theorem State.servePresent_eq (s : State) (i : Slot) (startUp : Bool) :
    let t := s.putSlot i { s.slot i with present := true }
    let loaded (ungranted : Bool) : State := (t.putSlot i { s.slot i with
      present := true, state := .loaded, ungranted := ungranted, loadedAt := some s.now }).post .loaded i.val
    s.servePresent i startUp =
      if (s.slot i).state = .empty then
        if startUp = true then loaded false else if s.grantedFor i .load = true then t else loaded true
      else t := by
  simp only [State.servePresent, State.arrive_putSlot]

/-! ### A drive leaves (R70) -/

/-- What TTB gives back when a drive is lost: its place in a wait queue, or its reservation (R163, R165). -/
def State.leavePlace (s : State) (i : Slot) (r : SlotRecord) : State :=
  if r.state = .dispatchWait then s.leaveQueue i else if r.state = .unload then s.releaseReservation i else s

/-- A lost drive, from the slot record written just before. -/
theorem State.loseDrive_putSlot (s : State) (i : Slot) (r : SlotRecord) {os : List PowerOrder}
    (ho : (s.mailOf i).orders = os) :
    let t := s.putSlot i r
    let ordered := t.setMail i { t.mailOf i with orders := os ++ [.release] }
    t.loseDrive i = ((ordered.leavePlace i r).clearSlot i).post .driveLost i.val := by
  intro t ordered
  have given : t.giveOrder i .release = ordered := by rw [State.giveOrder, State.orders_putSlot, ho]
  simp only [State.loseDrive, given, t, State.slot_putSlot_same, State.leavePlace]
  cases r.state <;> rfl

/-- A change to ABSENT: the switch alone in an EMPTY slot or in a granted UNLOAD, else the loss of the drive (R70). -/
theorem State.serveAbsent_eq (s : State) (i : Slot) {os : List PowerOrder} (ho : (s.mailOf i).orders = os) :
    let t := s.putSlot i { s.slot i with present := false }
    let ordered := t.setMail i { t.mailOf i with orders := os ++ [.release] }
    s.serveAbsent i =
      if (s.slot i).state = .empty ∨ ((s.slot i).state = .unload ∧ s.grantedFor i .unload = true) then t
      else ((ordered.leavePlace i (s.slot i)).clearSlot i).post .driveLost i.val := by
  intro t ordered
  have lost : t.loseDrive i = ((ordered.leavePlace i (s.slot i)).clearSlot i).post .driveLost i.val :=
    s.loseDrive_putSlot i _ ho
  rw [← lost]
  exact (ite_or ..).symm

/-- A record written with the slot's switches as they are changes no switch. -/
theorem State.putSlot_switches (s : State) (i j : Slot) (r : SlotRecord) (hp : r.present = (s.slot i).present)
    (hc : r.closed = (s.slot i).closed) :
    ((s.putSlot i r).slot j).present = (s.slot j).present ∧ ((s.putSlot i r).slot j).closed = (s.slot j).closed := by
  rw [State.slot_putSlot]
  split
  · next e => subst e; exact ⟨hp, hc⟩
  · exact ⟨rfl, rfl⟩

/-- A reservation given to a slot that waits changes no switch of any slot. -/
theorem State.reserve?_switches {s t : State} {g : Bin} {i : Slot} (ht : s.reserve? g i = some t) (j : Slot) :
    (t.slot j).present = (s.slot j).present ∧ (t.slot j).closed = (s.slot j).closed := by
  simp only [State.reserve?, Option.bind_eq_some_iff, Option.map_eq_some_iff] at ht
  obtain ⟨x, -, p, -, rfl⟩ := ht
  exact State.putSlot_switches _ i j _ rfl rfl

theorem State.releaseReservation_switches (s : State) (i j : Slot) :
    ((s.releaseReservation i).slot j).present = (s.slot j).present ∧
      ((s.releaseReservation i).slot j).closed = (s.slot j).closed := by
  unfold State.releaseReservation
  split
  · next n b p _ =>
    dsimp only
    split
    · exact ⟨rfl, rfl⟩
    · next k rest _ =>
      cases ht : ((s.setTote n (.opened (b.put p .empty))).setQueue b.bin rest).reserve? b.bin k with
      | none => exact ⟨rfl, rfl⟩
      | some t => exact State.reserve?_switches ht j
  · exact ⟨rfl, rfl⟩

theorem State.leavePlace_switches (s : State) (i j : Slot) (r : SlotRecord) :
    ((s.leavePlace i r).slot j).present = (s.slot j).present ∧
      ((s.leavePlace i r).slot j).closed = (s.slot j).closed := by
  unfold State.leavePlace
  split
  · simp [State.slot]
  · split
    · exact s.releaseReservation_switches i j
    · exact ⟨rfl, rfl⟩

/-- A cleared record keeps its switches alone (R49). -/
theorem State.slot_clearSlot_same (s : State) (i : Slot) : (s.clearSlot i).slot i =
    { SlotRecord.reset with present := (s.slot i).present, closed := (s.slot i).closed } := State.slot_putSlot_same ..

/-- The record a lost drive leaves: cleared but for the switches of the record written before (R49, R70). -/
theorem State.slot_lost (s : State) (i : Slot) (r : SlotRecord) (m : Mail) :
    ((((s.putSlot i r).setMail i m).leavePlace i r).clearSlot i).slot i =
      { SlotRecord.reset with present := r.present, closed := r.closed } := by
  have written : ((s.putSlot i r).setMail i m).slot i = r := s.slot_putSlot_same i r
  obtain ⟨present, closed⟩ := State.leavePlace_switches ((s.putSlot i r).setMail i m) i i r
  rw [State.slot_clearSlot_same, present, closed, written]

/-! ### The latch (R43, R52, R68) -/

theorem State.serveLatchOpen_eq (s : State) (i : Slot) {os : List PowerOrder} (ho : (s.mailOf i).orders = os) :
    let t := s.putSlot i { s.slot i with closed := false }
    let g := t.gradeSlot i { s.slot i with
      closed := false, fault := some (.latchOpen, s.now), state := .spinDown, exit := .dispatch } none s.pcu.generation
    s.serveLatchOpen i =
      if (s.slot i).state = .spinUpWait then
        t.setMail i { t.mailOf i with orders := os ++ [.powerOff false] }
      else if (s.slot i).state = .spinUp ∨ (s.slot i).state = .ready ∨ (s.slot i).state = .running ∨
          (s.slot i).state = .complete then
        g.setMail i { g.mailOf i with orders := os ++ [.spinDown] }
      else t := by
  intro t g
  have waits : t.giveOrder i (.powerOff false) =
      t.setMail i { t.mailOf i with orders := os ++ [.powerOff false] } := by
    rw [State.giveOrder, State.orders_putSlot, ho]
  have spins : t.gradeToSpinDown i (t.faulted i .latchOpen) none t.pcu.generation =
      g.setMail i { g.mailOf i with orders := os ++ [.spinDown] } := by
    rw [State.gradeToSpinDown, State.faulted, State.slot_putSlot_same, State.giveOrder, State.orders_gradeSlot,
      State.orders_putSlot, ho]
    rfl
  rw [← waits, ← spins]
  unfold State.serveLatchOpen
  cases (s.slot i).state <;> rfl

/-- Settles O32: the two presence changes, then the two latch changes. -/
theorem inputChangesAtTheSlot : Obligations.InputChangesAtTheSlot := by
  intro i s m r granted
  have granted_iff (a : Action) : granted a ↔ s.grantedFor i a = true := (s.grantedFor_iff i a).symm
  refine ⟨fun stamp startUp rest h => ?_, fun stamp startUp rest h => ?_, fun stamp startUp rest h => ?_,
    fun stamp startUp rest h => ?_⟩
  · have served := execPresencePresentAtSsq_cons i s h
    rw [State.servePresent_eq] at served
    refine ⟨fun other => ?_, fun empty yes => ?_, fun empty no load => ?_, fun empty no load => ?_⟩
    · exact served.trans (congrArg _ (if_neg other))
    · exact served.trans (congrArg _ ((if_pos empty).trans (if_pos yes)))
    · exact served.trans (congrArg _ ((if_pos empty).trans ((if_neg (by simp [no])).trans
        (if_pos ((granted_iff .load).1 load)))))
    · exact served.trans (congrArg _ ((if_pos empty).trans ((if_neg (by simp [no])).trans
        (if_neg (load ∘ (granted_iff .load).2)))))
  · have orders : ((s.setMail i { m with presenceToSsq := rest }).mailOf i).orders = m.orders := by
      rw [State.mailOf_setMail_same]
    have served := execPresenceAbsentAtSsq_cons i s h
    rw [State.serveAbsent_eq _ i orders] at served
    refine ⟨fun stays => served.trans (congrArg _ (if_pos ?_)), fun held lost => ⟨served.trans (congrArg _ (if_neg ?_)), ?_⟩⟩
    · exact stays.imp_right (And.imp_right (granted_iff .unload).1)
    · exact not_or.2 ⟨held, lost ∘ And.imp_right (granted_iff .unload).2⟩
    · exact State.slot_lost _ i { r with present := false } _
  · exact execLatchClosedAtSsq_cons i s h
  · have orders : ((s.setMail i (m.takeLatch rest)).mailOf i).orders = m.orders := by
      rw [State.mailOf_setMail_same]
      rfl
    exact (execLatchOpenAtSsq_cons i s h).trans (congrArg _ (State.serveLatchOpen_eq _ i orders))

end Sys2Proof.Machine
end

section
/-! What a step may write over a slot record (Table 4-1), and that each such change keeps the laws of the record. -/

namespace Sys2Proof.Machine

/-! ### Slot states -/

/-- A drive whose test has not begun is neither tested nor graded. -/
theorem SlotRecord.of_isFresh {r : SlotRecord} (h : r.isFresh = true) :
    r.state ≠ .empty ∧ r.state.testing = false ∧ r.isGraded = false := by
  unfold SlotRecord.isFresh at h
  unfold SlotRecord.isGraded SlotState.testing
  cases hs : r.state with
  | spinDown => cases hx : r.exit <;> simp_all
  | _ => simp_all

/-- A drive under test is neither fresh nor graded. -/
theorem SlotRecord.of_testing {r : SlotRecord} (h : r.state.testing = true) :
    r.state ≠ .empty ∧ r.isFresh = false ∧ r.isGraded = false := by
  unfold SlotState.testing at h
  unfold SlotRecord.isFresh SlotRecord.isGraded
  cases hs : r.state <;> simp_all

/-- A graded drive is neither fresh nor under test. -/
theorem SlotRecord.of_isGraded {r : SlotRecord} (h : r.isGraded = true) :
    r.state ≠ .empty ∧ r.isFresh = false ∧ r.state.testing = false := by
  unfold SlotRecord.isGraded at h
  unfold SlotRecord.isFresh SlotState.testing
  cases hs : r.state with
  | spinDown => cases hx : r.exit <;> simp_all
  | _ => simp_all

theorem SlotRecord.testing_of_running {r : SlotRecord} (h : r.state = .running) : r.state.testing = true := by
  rw [h]; rfl

/-- The slot is RUNNING a stage whose context is sensitive. -/
theorem SlotRecord.runsSensitive_iff (r : SlotRecord) :
    r.runsSensitive = true ↔ r.state = .running ∧ ∃ c, r.context = some c ∧ c.sensitive = true := by
  unfold SlotRecord.runsSensitive
  cases r.context <;> simp

/-- The slot takes credit, towards this target (R58). -/
theorem SlotRecord.creditTarget?_eq_some (r : SlotRecord) (t : Nat) : r.creditTarget? = some t ↔
    r.state = .running ∧ r.phase = .active ∧
      ∃ c, r.context = some c ∧ (c.mode = .always ∨ r.quiet ≠ .quiet) ∧ c.target = some t := by
  unfold SlotRecord.creditTarget?
  split
  · next h => simp [h, Option.bind_eq_some_iff]
  · next h => simp only [reduceCtorEq, false_iff]; exact fun k => h ⟨k.1, k.2.1⟩

/-! ### Records within their laws -/

namespace RecordLaws

variable {r : SlotRecord}

/-- The two switches say nothing of the rest. -/
theorem switched (h : RecordLaws r) (p c : Bool) : RecordLaws { r with present := p, closed := c } :=
  { h with empty := fun e => congrArg (fun x : SlotRecord => { x with present := p, closed := c }) (h.empty e) }

/-- A cleared record (R49). -/
theorem cleared (r : SlotRecord) : RecordLaws r.cleared := recordLaws_reset.switched r.present r.closed

/-- A drive in an EMPTY slot: the record was cleared (R49, R51). -/
theorem arrived (h : RecordLaws r) (he : r.state = .empty) (u : Bool) (now : RackTime) :
    RecordLaws { r with state := .loaded, ungranted := u, loadedAt := some now } := by
  rw [h.empty he]
  exact { RecordLaws.cleared r with
    empty := nofun, fresh := fun _ => ⟨rfl, rfl, rfl, rfl, rfl, rfl⟩, quiet := nofun, loaded := ⟨nofun, fun _ => rfl⟩ }

/-- Power goes on or off before the test: another state of a fresh drive. -/
theorem powered (h : RecordLaws r) (hr : r.isFresh = true) {st : SlotState} {x : SpinDownExit}
    (hs : ({ r with state := st, exit := x } : SlotRecord).isFresh = true) : RecordLaws { r with state := st, exit := x } := by
  obtain ⟨full, untested, ungraded⟩ := SlotRecord.of_isFresh hr
  obtain ⟨full', untested', ungraded'⟩ := SlotRecord.of_isFresh hs
  have calm : r.quiet = .normal := by
    by_contra q
    have running := ((SlotRecord.runsSensitive_iff r).1 (h.quiet q)).1
    rw [running] at untested
    cases untested
  exact { h with
    empty := fun e => absurd e full'
    fresh := fun _ => h.fresh hr
    recipe := h.recipe.trans (untested.trans untested'.symm)
    context := h.context.trans (untested.trans untested'.symm)
    quiet := fun q => absurd calm q
    grade := h.grade.trans (ungraded.trans ungraded'.symm)
    finished := h.finished.trans (ungraded.trans ungraded'.symm)
    generation := h.generation.trans (ungraded.trans ungraded'.symm)
    fault := fun f => absurd (h.fault f) (by simp [ungraded])
    loaded := ⟨fun _ => full', fun _ => h.loaded.2 full⟩ }

/-- A captured stage, over the record of a drive that is not graded, whose marks list ends before it (R56, R57). -/
theorem captured (h : RecordLaws r) (hu : r.isGraded = false) (hf : r.state ≠ .empty) (ref : RecipeRef) {total : Nat}
    {marks : List Marks} (started : Option RackTime) (ht : total ≤ Config.max32)
    (hn : marks.length < ref.stages ∧ ref.stages ≤ 16) {e : StageEntry} (he : e.legal) (now : RackTime) (holds : Nat) :
    RecordLaws (({ r with recipe := some ref, total := total, marks := marks, startedAt := started } : SlotRecord).captured
      marks.length e now holds) where
  empty := nofun
  fresh := nofun
  recipe := rfl
  context := rfl
  quiet := fun q => by
    simp only [SlotRecord.captured, startQuiet] at q
    split at q
    · next k => simpa [SlotRecord.runsSensitive, SlotRecord.captured, StageEntry.context] using k.1
    · exact absurd rfl q
  asked := fun q => by
    simp only [SlotRecord.captured, startQuiet] at q
    split at q <;> cases q
  grade := h.grade.trans hu
  finished := h.finished.trans hu
  generation := h.generation.trans hu
  fault := fun f => absurd (h.fault f) (by simp [hu])
  loaded := ⟨nofun, fun _ => h.loaded.2 hf⟩
  marks := by simp only [SlotRecord.captured, List.length_append, List.length_singleton]; omega
  stage := fun x hx => by
    cases hx
    exact ⟨List.length_append, hn⟩
  credit := fun c hc => by
    cases hc
    cases htarget : e.target with
    | none => simp [SlotRecord.creditLawful, SlotRecord.captured, StageEntry.context, htarget]
    | some m =>
      have legal := he.1 m htarget
      simp only [SlotRecord.creditLawful, SlotRecord.captured, StageEntry.context, htarget, Option.map_some, reduceCtorEq,
        false_iff]
      change 1 ≤ m * 1920 ∧ 0 ≤ m * 1920 + 254 ∧ ¬ m * 1920 ≤ 0
      omega
  total := ht
  serial := h.serial

/-- The end of the last stage (R62). -/
theorem completed (h : RecordLaws r) (hr : r.state = .running) : RecordLaws r.completed := by
  obtain ⟨full, -, ungraded⟩ := SlotRecord.of_testing (SlotRecord.testing_of_running hr)
  have tested := SlotRecord.testing_of_running hr
  exact { h with
    empty := nofun
    fresh := nofun
    recipe := h.recipe.trans tested
    context := h.context.trans tested
    quiet := fun q => absurd rfl q
    asked := nofun
    grade := h.grade.trans ungraded
    finished := h.finished.trans ungraded
    generation := h.generation.trans ungraded
    fault := fun f => absurd (h.fault f) (by simp [ungraded])
    loaded := ⟨nofun, fun _ => h.loaded.2 full⟩ }

/-- A graded drive on its way out (R67): SPINDOWN with exit DISPATCH, DISPATCH_WAIT or UNLOAD. -/
theorem graded (h : RecordLaws r) (hf : r.state ≠ .empty) (f : Option (FaultKind × RackTime)) (l : Option Limits) (n : Nat)
    (now : RackTime) {st : SlotState} {x : SpinDownExit}
    (hs : ({ r with state := st, exit := x } : SlotRecord).isGraded = true) :
    RecordLaws { ({ r with fault := f } : SlotRecord).graded l n now with state := st, exit := x } := by
  obtain ⟨full, stale, untested⟩ := SlotRecord.of_isGraded hs
  exact { h with
    empty := fun e => absurd e full
    fresh := fun e => absurd (stale.symm.trans e) (by decide)
    recipe := untested.symm
    context := untested.symm
    quiet := fun q => absurd rfl q
    asked := nofun
    grade := hs.symm
    finished := hs.symm
    generation := hs.symm
    fault := fun _ => hs
    loaded := ⟨fun _ => full, fun _ => h.loaded.2 hf⟩
    stage := nofun
    credit := nofun }

/-- A graded drive changes its state alone (R161). -/
theorem dispatched (h : RecordLaws r) (hr : r.isGraded = true) {st : SlotState}
    (hs : ({ r with state := st } : SlotRecord).isGraded = true) : RecordLaws { r with state := st } := by
  obtain ⟨full, -, untested⟩ := SlotRecord.of_isGraded hr
  obtain ⟨full', stale', untested'⟩ := SlotRecord.of_isGraded hs
  have calm : r.quiet = .normal := by
    by_contra q
    have running := ((SlotRecord.runsSensitive_iff r).1 (h.quiet q)).1
    rw [running] at untested
    cases untested
  exact { h with
    empty := fun e => absurd e full'
    fresh := fun e => absurd (stale'.symm.trans e) (by decide)
    recipe := h.recipe.trans (untested.trans untested'.symm)
    context := h.context.trans (untested.trans untested'.symm)
    quiet := fun q => absurd calm q
    grade := h.grade.trans (hr.trans hs.symm)
    finished := h.finished.trans (hr.trans hs.symm)
    generation := h.generation.trans (hr.trans hs.symm)
    fault := fun _ => hs
    loaded := ⟨fun _ => full', fun _ => h.loaded.2 full⟩ }

/-- Marks made on stages that the list holds (R26, R60). -/
theorem marked (h : RecordLaws r) (hr : r.state = .running) {ms : List Marks} (hm : ms.length = r.marks.length) :
    RecordLaws { r with marks := ms } := by
  obtain ⟨full, stale, -⟩ := SlotRecord.of_testing (SlotRecord.testing_of_running hr)
  exact { h with
    empty := fun e => absurd e full
    fresh := fun e => absurd (stale.symm.trans e) (by decide)
    marks := hm ▸ h.marks
    stage := fun ref href => ⟨hm.trans (h.stage ref href).1, (h.stage ref href).2⟩ }

/-- Another quiet state of a sensitive stage; ASKED only where it is suspendable (R59, R83). -/
theorem quieted (h : RecordLaws r) (hr : r.runsSensitive = true) {q : QuietState}
    (hq : q = .asked → (r.context.map (·.suspendable)).getD false = true) : RecordLaws { r with quiet := q } := by
  have running := ((SlotRecord.runsSensitive_iff r).1 hr).1
  obtain ⟨full, -, -⟩ := SlotRecord.of_testing (SlotRecord.testing_of_running running)
  exact { h with
    empty := fun e => absurd e full
    quiet := fun _ => hr
    asked := hq }

/-- A measure taken during or after the stages (R63). -/
theorem measured (h : RecordLaws r) (hr : r.state.testing = true) (v : Vector (Option Nat) 8) :
    RecordLaws { r with measures := v } := by
  obtain ⟨full, stale, -⟩ := SlotRecord.of_testing hr
  exact { h with
    empty := fun e => absurd e full
    fresh := fun e => absurd (stale.symm.trans e) (by decide) }

/-- Credit earned: one factor past the target at most (R58). -/
theorem credited (h : RecordLaws r) {t n : Nat} (ht : r.creditTarget? = some t) (hn : n ≤ 255) :
    RecordLaws (r.credited t n) := by
  obtain ⟨running, active, c, hc, -, hct⟩ := (SlotRecord.creditTarget?_eq_some r t).1 ht
  obtain ⟨full, stale, -⟩ := SlotRecord.of_testing (SlotRecord.testing_of_running running)
  have owed : 1 ≤ t ∧ r.credit < t := by
    have lawful := h.credit c hc
    simp only [SlotRecord.creditLawful, hct, active, reduceCtorEq, false_iff] at lawful
    omega
  exact { h with
    empty := fun e => absurd e full
    fresh := fun e => absurd (stale.symm.trans e) (by decide)
    credit := fun d hd => by
      obtain rfl : c = d := Option.some.inj (hc.symm.trans hd)
      simp only [SlotRecord.creditLawful, hct, SlotRecord.credited]
      refine ⟨owed.1, by omega, ?_⟩
      split <;> simp_all
    total := Nat.min_le_left _ _ }

/-- A legal serial written (R53). -/
theorem named (h : RecordLaws r) (hr : r.state ≠ .empty) {cs : List Byte} (hc : stringIn? 1 20 cs = some cs) :
    RecordLaws { r with serial := some cs } :=
  { h with
    empty := fun e => absurd e hr
    serial := fun ds hd => by cases hd; exact hc }

end RecordLaws

end Sys2Proof.Machine
end

section
/-! What a step may write over a slot record: `RecordChange` says it once, with what the step knows where it writes. Every operation
on the slot records chains such changes. -/

namespace Sys2Proof.Machine

/-- A change that a step from `s` may make to the record of slot `i`. -/
inductive RecordChange (s : State) (i : Slot) : SlotRecord → SlotRecord → Prop
  /-- A switch changes (R51, R52, R68, R70). -/
  | switched {r : SlotRecord} (p c : Bool) : RecordChange s i r { r with present := p, closed := c }
  /-- The record is cleared (R49). -/
  | cleared {r : SlotRecord} : RecordChange s i r r.cleared
  /-- A drive comes to an EMPTY slot (R51, R52). -/
  | arrived {r : SlotRecord} (u : Bool) (now : RackTime) (h : r.state = .empty) :
    RecordChange s i r { r with state := .loaded, ungranted := u, loadedAt := some now }
  /-- Power goes on or off before the test (R37 to R42, R73). -/
  | powered {r : SlotRecord} (st : SlotState) (x : SpinDownExit) (h : r.isFresh = true)
      (hs : ({ r with state := st, exit := x } : SlotRecord).isFresh = true) :
    RecordChange s i r { r with state := st, exit := x }
  /-- A START is served: the first stage is captured (R57). -/
  | started (id : Nat) (b : BlockNo) (revision stages : Nat) (e : StageEntry) (now : RackTime) (holds : Nat)
      (hf : s.fetch = .answered (.start i id) (.start b revision stages e)) (hr : (s.slot i).state = .ready) :
    RecordChange s i (s.slot i) (((s.slot i).started ⟨b, id, revision, stages⟩ now).captured 0 e now holds)
  /-- An ADVANCE is served: the next stage is captured (R62). -/
  | advanced (b : BlockNo) (n : Nat) (e : StageEntry) (now : RackTime) (holds : Nat)
      (hf : s.fetch = .answered (.stage i b n) (.stage e)) (hr : (s.slot i).state = .running) :
    RecordChange s i (s.slot i) ((s.slot i).captured n e now holds)
  /-- The last stage ends (R62). -/
  | completed {r : SlotRecord} (h : r.state = .running) : RecordChange s i r r.completed
  /-- The drive is graded and on its way out (R65 to R69). -/
  | graded {r : SlotRecord} (f : Option (FaultKind × RackTime)) (l : Option Limits) (n : Nat) (now : RackTime) (st : SlotState)
      (x : SpinDownExit) (h : r.state ≠ .empty) (hs : ({ r with state := st, exit := x } : SlotRecord).isGraded = true) :
    RecordChange s i r { ({ r with fault := f } : SlotRecord).graded l n now with state := st, exit := x }
  /-- A graded drive, or one that waited for a tote, is dispatched (R161, R165, R166). -/
  | dispatched {r : SlotRecord} (st : SlotState) (hs : st = .unload ∨ st = .dispatchWait)
      (h : r.isGraded = true ∨ r.state = (s.slot i).state ∧ ∃ g, i ∈ s.waitQueue g) :
    RecordChange s i r { r with state := st }
  /-- A mark is made on a stage (R26, R60). -/
  | marked {r : SlotRecord} (ms : List Marks) (h : r.state = .running) (hm : ms.length = r.marks.length) :
    RecordChange s i r { r with marks := ms }
  /-- The quiet state of a sensitive stage changes (R59, R83). -/
  | quieted {r : SlotRecord} (q : QuietState) (h : r.runsSensitive = true)
      (hq : q = .asked → (r.context.map (·.suspendable)).getD false = true) : RecordChange s i r { r with quiet := q }
  /-- A measure is taken (R63). -/
  | measured {r : SlotRecord} (v : Vector (Option Nat) 8) (h : r.state.testing = true) :
    RecordChange s i r { r with measures := v }
  /-- The factor of a credit event is added (R58). -/
  | credited {r : SlotRecord} (target : Nat) (tf : Int) (h : r.creditTarget? = some target) :
    RecordChange s i r (r.credited target (s.creditFactor i tf))

/-- The waiting commands say nothing of the part. -/
theorem Lawful.setPending {s : State} (h : Lawful s) (q : List Instr) : Lawful { s with pending := q } :=
  { h with
    holds := { h.holds with }
    clock := { h.clock with }
    serials := { h.serials with }
    quiet := { h.quiet with }
    references := { h.references with }
    patches := { h.patches with }
    totes := { h.totes with } }

/-! ### What a lawful state knows of its changes -/

/-- A profile's factors are bytes (R107). -/
theorem Profile.factor_le {p : Profile} (h : ∀ b, tget p.factors b ≤ 255) (tf : Int) : p.factor tf ≤ 255 := by
  unfold Profile.factor
  split
  · exact Nat.zero_le _
  · exact h _

theorem Lawful.creditFactor_le {s : State} (h : Lawful s) (i : Slot) (tf : Int) : s.creditFactor i tf ≤ 255 := by
  unfold State.creditFactor
  split
  · exact Profile.factor_le (h.thermal.factors _) tf
  · exact Nat.zero_le _

/-- The answer to a start fetch names a recipe of 1 to 16 stages and its legal first stage. -/
theorem Lawful.startAnswer {s : State} (h : Lawful s) {i : Slot} {id : Nat} {b : BlockNo} {revision stages : Nat} {e : StageEntry}
    (hf : s.fetch = .answered (.start i id) (.start b revision stages e)) : 1 ≤ stages ∧ stages ≤ 16 ∧ e.legal := by
  have legal : e.legal := h.references.entries (.start b revision stages e) (by rw [hf]; rfl) e rfl
  obtain ⟨r, hr, -, -, count⟩ := h.references.answered (b, id, revision, stages, e) (by rw [hf]; rfl)
  obtain ⟨least, most⟩ := (h.store.recipes b r hr).stages
  have length : r.stages.length = stages := count
  exact ⟨length ▸ least, length ▸ most, legal⟩

/-- The answer to a stage fetch holds a legal stage, the next one of its slot's recipe. -/
theorem Lawful.stageAnswer {s : State} (h : Lawful s) {i : Slot} {b : BlockNo} {n : Nat} {e : StageEntry}
    (hf : s.fetch = .answered (.stage i b n) (.stage e)) (hr : (s.slot i).state = .running) :
    e.legal ∧ ∃ ref, (s.slot i).recipe = some ref ∧ n = (s.slot i).stage + 1 ∧ n < ref.stages := by
  have legal : e.legal := h.references.entries (.stage e) (by rw [hf]; rfl) e rfl
  obtain ⟨ref, href, -, next, within⟩ := h.references.stageFetch (i, b, n) (by rw [hf]; rfl) hr
  exact ⟨legal, ref, href, next, within⟩

/-- Every change keeps the laws of its record. -/
theorem RecordChange.laws {s : State} (h : Lawful s) {i : Slot} {r r' : SlotRecord} (c : RecordChange s i r r')
    (hr : RecordLaws r) : RecordLaws r' := by
  cases c with
  | switched p c => exact hr.switched p c
  | cleared => exact RecordLaws.cleared r
  | arrived u now he => exact hr.arrived he u now
  | powered st x hf hs => exact hr.powered hf hs
  | started id b revision stages e now holds hf hready =>
    obtain ⟨least, most, legal⟩ := h.startAnswer hf
    have fresh : (s.slot i).isFresh = true := by rw [SlotRecord.isFresh, hready]
    obtain ⟨full, -, ungraded⟩ := SlotRecord.of_isFresh fresh
    exact hr.captured ungraded full ⟨b, id, revision, stages⟩ (marks := []) (some now) (Nat.zero_le _) ⟨least, most⟩ legal now
      holds
  | advanced b n e now holds hf hrun =>
    obtain ⟨legal, ref, href, next, within⟩ := h.stageAnswer hf hrun
    obtain ⟨full, -, ungraded⟩ := SlotRecord.of_testing (SlotRecord.testing_of_running hrun)
    obtain ⟨count, -, most⟩ := hr.stage ref href
    have taken := hr.captured ungraded full ref (s.slot i).startedAt hr.total ⟨count ▸ next ▸ within, most⟩ legal now holds
    rwa [← href, count, ← next] at taken
  | completed hrun => exact hr.completed hrun
  | graded f l n now st x hf hs => exact hr.graded hf f l n now hs
  | dispatched st hs hg =>
    have graded : r.isGraded = true := by
      rcases hg with hg | ⟨same, g, hw⟩
      · exact hg
      · rw [SlotRecord.isGraded, same, ((h.totes.queues g i).1 hw).1]
    refine hr.dispatched graded ?_
    rcases hs with rfl | rfl <;> rfl
  | marked ms hrun hm => exact hr.marked hrun hm
  | quieted q hs hq => exact hr.quieted hs hq
  | measured v ht => exact hr.measured ht v
  | credited target tf ht => exact hr.credited ht (h.creditFactor_le i tf)

/-- Every change keeps the serial or clears it. -/
theorem RecordChange.serial {s : State} {i : Slot} {r r' : SlotRecord} (c : RecordChange s i r r') {cs : List Byte}
    (h : r'.serial = some cs) : r.serial = some cs := by
  cases c with
  | cleared => cases h
  | _ => exact h

end Sys2Proof.Machine
end

section
/-! What each operation writes over the slot records, as a chain of changes from the state the step began in. -/

namespace Sys2Proof.Machine

/-! ### The records after the shared operations -/

theorem State.slot_of_slots {s t : State} (h : t.slots = s.slots) (j : Slot) : t.slot j = s.slot j := by
  rw [State.slot, h, State.slot]

theorem State.slot_gradeSlot (s : State) (i j : Slot) (r : SlotRecord) (l : Option Limits) (n : Nat) :
    (s.gradeSlot i r l n).slot j = if j = i then r.graded l n s.now else s.slot j := by
  rw [State.gradeSlot, State.slot_putSlot]
  congr 1
  exact State.slot_of_slots (by simp) j

theorem State.slot_capture (s : State) (i j : Slot) (r : SlotRecord) (n : Nat) (e : StageEntry) :
    (s.capture i r n e).slot j = if j = i then r.captured n e s.now (s.holdCount i) else s.slot j :=
  State.slot_putSlot ..

theorem State.slot_clearSlot (s : State) (i j : Slot) :
    (s.clearSlot i).slot j = if j = i then (s.slot i).cleared else s.slot j := by
  rw [State.clearSlot, State.slot_putSlot]
  congr 1
  exact State.slot_of_slots (by simp) j

theorem State.slot_reserve? {s t : State} {g : Bin} {i : Slot} (h : s.reserve? g i = some t) (j : Slot) :
    t.slot j = if j = i then { s.slot i with state := .unload } else s.slot j := by
  simp only [State.reserve?, Option.bind_eq_some_iff, Option.map_eq_some_iff] at h
  obtain ⟨x, -, p, -, rfl⟩ := h
  exact State.slot_putSlot ..

/-- A graded drive is dispatched: to a tote, or to wait for one (R161). -/
theorem State.slot_dispatch (s : State) (i : Slot) (h : (s.slot i).grade.isSome = true) :
    ∃ st, (st = .unload ∨ st = .dispatchWait) ∧
      ∀ j, (s.dispatch i).slot j = if j = i then { s.slot i with state := st } else s.slot j := by
  obtain ⟨g, hg⟩ := Option.isSome_iff_exists.1 h
  have served : s.dispatch i = (s.reserve? g.1 i).getD (s.stall g.1 i) := by simp only [State.dispatch, hg]
  rw [served]
  cases ht : s.reserve? g.1 i with
  | none => exact ⟨.dispatchWait, .inr rfl, fun j => State.slot_putSlot (s.setQueue g.1 _) i j _⟩
  | some t => exact ⟨.unload, .inl rfl, State.slot_reserve? ht⟩

/-! ### Chains of changes -/

/-- Every record of `t` comes from that of `s` by changes that a step from `s` may make. -/
def RecordsChange (s t : State) : Prop := ∀ i, Relation.ReflTransGen (RecordChange s i) (s.slot i) (t.slot i)

/-- The slot's drive is graded, or it waits for a tote since before the step. -/
def State.mayLeave (s t : State) (j : Slot) : Prop :=
  (t.slot j).isGraded = true ∨ (t.slot j).state = (s.slot j).state ∧ ∃ g, j ∈ s.waitQueue g

/-- A slot that a reservation serves may leave, and so may every slot that might before. -/
theorem State.mayLeave_reserve? {s t u : State} {g : Bin} {i j : Slot} (hu : t.reserve? g i = some u)
    (hj : s.mayLeave t j) : s.mayLeave u j := by
  unfold State.mayLeave
  rw [State.slot_reserve? hu]
  split
  · exact .inl rfl
  · exact hj

namespace RecordsChange

variable {s t u : State}

/-- Every change keeps the laws of its record, and so does the chain. -/
theorem laws (h : RecordsChange s t) (hs : Lawful s) (i : Slot) : RecordLaws (t.slot i) := by
  have chain := h i
  generalize t.slot i = r at chain
  induction chain with
  | refl => exact hs.records i
  | tail _ c ih => exact c.laws hs ih

/-- No change writes another serial. -/
theorem serial (h : RecordsChange s t) (i : Slot) {cs : List Byte} (hc : (t.slot i).serial = some cs) :
    (s.slot i).serial = some cs := by
  have chain := h i
  generalize t.slot i = r at chain hc
  induction chain with
  | refl => exact hc
  | tail _ c ih => exact ih (c.serial hc)

protected theorem refl (s : State) : RecordsChange s s := fun _ => .refl

/-- What leaves the slot records alone. -/
theorem of_slots (h : RecordsChange s t) (e : u.slots = t.slots) : RecordsChange s u := fun i => by
  rw [State.slot_of_slots e]; exact h i

/-- A step that leaves the slot records alone. -/
theorem same (e : t.slots = s.slots) : RecordsChange s t := (RecordsChange.refl s).of_slots e

/-- One record written. -/
theorem write (h : RecordsChange s t) (i : Slot) {r : SlotRecord}
    (hu : ∀ j, u.slot j = if j = i then r else t.slot j) (c : RecordChange s i (t.slot i) r) : RecordsChange s u := fun j => by
  rw [hu]
  split
  · next e => subst e; exact (h j).tail c
  · exact h j

theorem putSlot (h : RecordsChange s t) (i : Slot) {r : SlotRecord} (c : RecordChange s i (t.slot i) r) :
    RecordsChange s (t.putSlot i r) := h.write i (t.slot_putSlot i · r) c

theorem post (h : RecordsChange s t) (k : NoticeKind) (n : Nat) : RecordsChange s (t.post k n) := h.of_slots (by simp)

theorem setMail (h : RecordsChange s t) (i : Slot) (m : Mail) : RecordsChange s (t.setMail i m) := h.of_slots (by simp)

theorem respond (h : RecordsChange s t) (l : Link) (n : Nat) (k : RespCode) (p : List Byte) :
    RecordsChange s (t.respond l n k p) := h.of_slots (by simp)

theorem clearSlot (h : RecordsChange s t) (i : Slot) : RecordsChange s (t.clearSlot i) :=
  h.write i (t.slot_clearSlot i) .cleared

/-- A grading of a powered drive (R65, R66, R68, R69). -/
theorem gradeToSpinDown (h : RecordsChange s t) (i : Slot) (f : Option (FaultKind × RackTime)) (l : Option Limits) (n : Nat)
    (hf : (t.slot i).state ≠ .empty) : RecordsChange s (t.gradeToSpinDown i { t.slot i with fault := f } l n) :=
  (h.write i (t.slot_gradeSlot i · _ l n) (.graded f l n t.now .spinDown .dispatch hf rfl)).setMail i _

/-! ### TTB -/

theorem reserve? (h : RecordsChange s t) {g : Bin} {i : Slot} (hw : s.mayLeave t i) (hu : t.reserve? g i = some u) :
    RecordsChange s u := h.write i (State.slot_reserve? hu) (.dispatched .unload (.inl rfl) hw)

/-- A graded drive's spin-down has ended (R73, R161). -/
theorem dispatch (h : RecordsChange s t) (i : Slot) (hg : (t.slot i).isGraded = true) : RecordsChange s (t.dispatch i) := by
  cases grade : (t.slot i).grade with
  | none => exact h.of_slots (by simp only [State.dispatch, grade])
  | some g =>
    obtain ⟨st, hst, written⟩ := t.slot_dispatch i (by rw [grade]; rfl)
    exact h.write i written (.dispatched st hst (.inl hg))

end RecordsChange

end Sys2Proof.Machine
end

section
/-! What each command may write over the slot records: request by request and event by event. -/

namespace Sys2Proof.Machine

namespace RecordsChange

variable {s t : State}

/-! ### TTB -/

/-- A wait queue served from its head (R166). -/
theorem serveQueue (g : Bin) (q : List Slot) : ∀ t : State, RecordsChange s t → (∀ j ∈ q, s.mayLeave t j) →
    RecordsChange s (State.serveQueue g q t).1 := by
  induction q with
  | nil => exact fun _ h _ => h
  | cons i rest ih =>
    intro t h hq
    have queued : RecordsChange s (t.setQueue g rest) := h.of_slots rfl
    unfold State.serveQueue
    split
    · next u hu =>
      exact ih u (queued.reserve? (hq i List.mem_cons_self) hu) fun j hj =>
        State.mayLeave_reserve? hu (hq j (List.mem_cons_of_mem i hj))
    · exact h

/-- A reservation released, and given to the head of the bin's wait queue (R165). -/
theorem releaseReservation (h : RecordsChange s t) (hw : ∀ g, ∀ j ∈ t.waitQueue g, s.mayLeave t j) (i : Slot) :
    RecordsChange s (t.releaseReservation i) := by
  unfold State.releaseReservation
  split
  · next n b p _ =>
    have emptied : RecordsChange s (t.setTote n (.opened (b.put p .empty))) := h.of_slots rfl
    dsimp only
    split
    · exact emptied
    · next j rest hq =>
      have queued : RecordsChange s ((t.setTote n (.opened (b.put p .empty))).setQueue b.bin rest) := emptied.of_slots rfl
      have waits : s.mayLeave t j := hw b.bin j (by
        change t.waitQueue b.bin = j :: rest at hq
        rw [hq]
        exact List.mem_cons_self)
      cases hu : ((t.setTote n (.opened (b.put p .empty))).setQueue b.bin rest).reserve? b.bin j with
      | none => exact emptied
      | some u => exact queued.reserve? waits hu
  · exact h

theorem serveOpenTote (s : State) (a b c : Nat) : RecordsChange s (serveOpenTote a b c s).1 := by
  unfold Machine.serveOpenTote
  split
  · next g _ _ _ _ =>
    repeat' split
    · exact .refl s
    · exact .refl s
    · exact serveQueue g _ _ (same rfl) fun j hj => .inr ⟨rfl, g, hj⟩
  · exact .refl s

/-! ### QAC -/

theorem loadPlaced (h : RecordsChange s t) (i : Slot) : RecordsChange s (t.loadPlaced i) := by
  unfold State.loadPlaced
  split
  · next he => exact (h.putSlot i (.arrived false _ he)).post _ _
  · exact h

theorem unloadPlaced (h : RecordsChange s t) (i : Slot) : RecordsChange s (t.unloadPlaced i) := by
  have filled : RecordsChange s (t.fillReservation i) := h.of_slots (by simp)
  unfold State.unloadPlaced
  split
  · exact filled.clearSlot i
  · exact h

theorem freeAccess (h : RecordsChange s t) (r : Fin 2) : RecordsChange s (t.freeAccess r) := h.of_slots (by simp)

theorem endAccess (h : RecordsChange s t) (r : Fin 2) (u : AccessUse) (p o q : Bool) :
    RecordsChange s (t.endAccess r u p o q).1 := by
  unfold State.endAccess
  dsimp only
  repeat' split
  · exact (h.loadPlaced u.target).freeAccess r
  · exact h
  · exact h
  · exact (h.unloadPlaced u.target).freeAccess r
  · exact h.freeAccess r
  · exact h

theorem serveAccessDone (h : RecordsChange s t) (a b : Nat) : RecordsChange s (serveAccessDone a b t).1 := by
  unfold Machine.serveAccessDone
  repeat' split
  · exact h.endAccess _ _ _ _ _
  all_goals exact h

theorem serveQuiet (h : RecordsChange s t) (n : Nat) : RecordsChange s (serveQuiet n t).1 := by
  unfold Machine.serveQuiet
  repeat' split
  · exact h
  · next sensitive _ _ => exact h.putSlot _ (.quieted .quiet sensitive nofun)
  all_goals exact h

theorem applyAsk (h : RecordsChange s t) (i : Slot) : RecordsChange s (t.applyAsk i) := by
  unfold State.applyAsk
  split
  · next ask =>
    simp only [SlotRecord.askable, Bool.and_eq_true] at ask
    exact (h.putSlot i (.quieted .asked ask.1.1.1 fun _ => ask.1.1.2)).post _ _
  · exact h

theorem applyRelease (h : RecordsChange s t) (i : Slot) : RecordsChange s (t.applyRelease i) := by
  unfold State.applyRelease
  split
  · next release => exact (h.putSlot i (.quieted .normal release.1 nofun)).post _ _
  · exact h

theorem applyDisturbance (h : RecordsChange s t) (i : Slot) : RecordsChange s (t.applyDisturbance i) := by
  unfold State.applyDisturbance
  split
  · next exposed =>
    simp only [SlotRecord.exposed, Bool.and_eq_true, SlotRecord.runsSensitive_iff] at exposed
    exact (h.putSlot i (.marked _ exposed.1.1 (List.length_modify ..))).post _ _
  · exact h

/-! ### PSQ and its reports -/

theorem takeOutcome (h : RecordsChange s t) (i : Slot) (o : PowerOutcome) : RecordsChange s (t.takeOutcome i o) := by
  rw [State.takeOutcome_eq]
  split
  · next hs =>
    have fresh : (t.slot i).isFresh = true := by rcases hs with hs | hs | hs <;> rw [SlotRecord.isFresh, hs]
    cases o with
    | withdrawn => exact h.putSlot i (.powered .loaded (t.slot i).exit fresh rfl)
    | spinningDown => exact h.putSlot i (.powered .spinDown .loaded fresh rfl)
  · exact h

theorem answerPowerOff (h : RecordsChange s t) (q : Bool) : RecordsChange s (t.answerPowerOff q) := h.of_slots (by simp)

theorem runPowerOff (h : RecordsChange s t) (i : Slot) (q : Bool) : RecordsChange s (t.runPowerOff i q) := by
  have looked : RecordsChange s ({ t with psq := (t.psq.servePowerOff t.rck.osc i).1 }.lookAtQueue) := h.of_slots (by simp)
  exact (looked.takeOutcome i _).answerPowerOff q

end RecordsChange

/-- PSQ's service of an order leaves the records alone where the slot is LOADED (R50). -/
theorem State.slots_runOrder (s : State) (i : Slot) (o : PowerOrder) (h : (s.slot i).state = .loaded) :
    (s.runOrder i o).slots = s.slots := by
  cases o with
  | powerOff q =>
    have stays : ¬ ((s.slot i).state = .spinUpWait ∨ (s.slot i).state = .spinUp ∨ (s.slot i).state = .ready) := by simp [h]
    simp only [State.runOrder, State.runPowerOff_eq, if_neg stays]
    split <;> simp
  | spinDown => simp [State.runOrder]
  | release => simp [State.runOrder]

theorem State.slots_runOrders (i : Slot) (os : List PowerOrder) : ∀ s : State, (s.slot i).state = .loaded →
    (State.runOrders i os s).slots = s.slots := by
  induction os with
  | nil => exact fun _ _ => rfl
  | cons o os ih =>
    intro s h
    have served : ((s.dropOrder i).runOrder i o).slots = s.slots := (s.dropOrder i).slots_runOrder i o h
    have loaded : (((s.dropOrder i).runOrder i o).slot i).state = .loaded := by rwa [State.slot_of_slots served]
    exact (ih _ loaded).trans served

namespace RecordsChange

variable {s t : State}

theorem servePowerOn (s : State) (n : Nat) : RecordsChange s (servePowerOn n s).1 := by
  unfold Machine.servePowerOn
  repeat' split
  · exact .refl s
  · exact .refl s
  · exact .refl s
  · next i _ hs _ =>
    have loaded : (s.slot i).state = .loaded := not_not.1 hs
    have ordered : (State.runOrders i (s.mailOf i).orders s).slots = s.slots := State.slots_runOrders i _ s loaded
    have fresh : ((State.runOrders i (s.mailOf i).orders s).slot i).isFresh = true := by
      rw [State.slot_of_slots ordered, SlotRecord.isFresh, loaded]
    have waits := (same ordered).putSlot i
      (.powered .spinUpWait ((State.runOrders i (s.mailOf i).orders s).slot i).exit fresh rfl)
    exact waits.of_slots (by simp)

/-! ### SSQ -/

theorem serveExpiry (h : RecordsChange s t) (i : Slot) (d : Deadline) : RecordsChange s (t.serveExpiry i d) := by
  by_cases hd : (t.slot i).runs d
  · rw [t.serveExpiry_runs i d hd]
    exact (h.putSlot i (.marked _ hd.1 (List.length_modify ..))).post _ _
  · rw [t.serveExpiry_stale i d hd]
    exact h

/-- A credit event is served with its slot's record and TAU as the step found them (R108). -/
theorem serveCredit (s : State) (i : Slot) (m : Mail) : RecordsChange s ((s.setMail i m).serveCredit i) := by
  have mailed : RecordsChange s (s.setMail i m) := (RecordsChange.refl s).setMail i m
  unfold State.serveCredit
  split
  · next tf _ _ =>
    unfold State.addCredit
    split
    · next target ht =>
      have earned := mailed.putSlot i (.credited target tf ht)
      dsimp only
      split
      · exact earned.post _ _
      · exact earned
    · exact mailed
  · exact mailed

/-- A drive comes to an EMPTY slot (R51). -/
theorem arrive (h : RecordsChange s t) (i : Slot) (u : Bool) (he : (t.slot i).state = .empty) : RecordsChange s (t.arrive i u) :=
  (h.putSlot i (.arrived u _ he)).post _ _

theorem servePresent (h : RecordsChange s t) (i : Slot) (u : Bool) : RecordsChange s (t.servePresent i u) := by
  have present : RecordsChange s (t.putSlot i { t.slot i with present := true }) := h.putSlot i (.switched true _)
  unfold State.servePresent
  dsimp only
  split
  · next he =>
    have empty : ((t.putSlot i { t.slot i with present := true }).slot i).state = .empty := by
      rw [State.slot_putSlot_same]; exact he
    repeat' split
    · exact present.arrive i _ empty
    · exact present
    · exact present.arrive i _ empty
  · exact present

theorem loseDrive (h : RecordsChange s t) (hw : ∀ g, ∀ j ∈ t.waitQueue g, s.mayLeave t j) (i : Slot) :
    RecordsChange s (t.loseDrive i) := by
  have ordered : RecordsChange s (t.giveOrder i .release) := h.setMail i _
  unfold State.loseDrive
  dsimp only
  split
  · have left : RecordsChange s ((t.giveOrder i .release).leaveQueue i) := ordered.of_slots (by simp)
    exact (left.clearSlot i).post _ _
  · exact ((ordered.releaseReservation hw i).clearSlot i).post _ _
  · exact (ordered.clearSlot i).post _ _

/-- A change to ABSENT (R70): every slot that waits for a tote waits since before the step. -/
theorem serveAbsent (s : State) (i : Slot) (m : Mail) : RecordsChange s ((s.setMail i m).serveAbsent i) := by
  have absent : RecordsChange s ((s.setMail i m).putSlot i { s.slot i with present := false }) :=
    ((RecordsChange.refl s).setMail i m).putSlot i (.switched false _)
  unfold State.serveAbsent
  dsimp only
  repeat' split
  · exact absent
  · exact absent
  · refine absent.loseDrive (fun g j hj => .inr ⟨?_, g, hj⟩) i
    rw [State.slot_putSlot]
    split
    · next e => subst e; rfl
    · rfl

theorem serveLatchOpen (h : RecordsChange s t) (i : Slot) : RecordsChange s (t.serveLatchOpen i) := by
  have opened : RecordsChange s (t.putSlot i { t.slot i with closed := false }) := h.putSlot i (.switched _ false)
  have graded (hf : (t.slot i).state ≠ .empty) (u : State) (hu : u = t.putSlot i { t.slot i with closed := false }) :
      RecordsChange s (u.gradeToSpinDown i (u.faulted i .latchOpen) none u.pcu.generation) := by
    subst hu
    exact opened.gradeToSpinDown i _ none _ (by rw [State.slot_putSlot_same]; exact hf)
  unfold State.serveLatchOpen
  dsimp only
  split
  · exact opened.setMail i _
  · next e => exact graded (by rw [e]; decide) _ rfl
  · next e => exact graded (by rw [e]; decide) _ rfl
  · next e => exact graded (by rw [e]; decide) _ rfl
  · next e => exact graded (by rw [e]; decide) _ rfl
  · exact opened

theorem serveSpunDown (h : RecordsChange s t) (i : Slot) : RecordsChange s (t.serveSpunDown i) := by
  rw [t.serveSpunDown_eq]
  repeat' split
  · next hs hx =>
    have fresh : (t.slot i).isFresh = true := by rw [SlotRecord.isFresh, hs, hx]; rfl
    exact h.putSlot i (.powered .loaded (t.slot i).exit fresh rfl)
  · next hs hx =>
    have leaves : (t.slot i).exit = .dispatch := by cases e : (t.slot i).exit <;> simp_all
    exact h.dispatch i (by rw [SlotRecord.isGraded, hs, leaves]; rfl)
  · exact h

theorem serveOvertemp (h : RecordsChange s t) (i : Slot) : RecordsChange s (t.serveOvertemp i) := by
  unfold State.serveOvertemp
  split
  · next hr => exact (h.gradeToSpinDown i _ none _ (by rw [hr]; decide)).post _ _
  · exact h

theorem serveStartAnswer (s : State) (i : Slot) (id : Nat) (r : FetchResult) (hf : s.fetch = .answered (.start i id) r) :
    RecordsChange s (s.endFetch.serveStartAnswer i id r) := by
  have ended : RecordsChange s s.endFetch := same rfl
  unfold State.serveStartAnswer
  repeat' split
  · exact ended.respond _ _ _ _
  · exact ended.respond _ _ _ _
  · next b revision stages e ready =>
    exact (ended.write i (s.endFetch.slot_capture i · _ 0 e) (.started id b revision stages e _ _ hf ready)).respond _ _ _ _
  · exact ended.of_slots (by simp)
  · exact ended.respond _ _ _ _

theorem serveStageAnswer (s : State) (i : Slot) (b : BlockNo) (n : Nat) (r : FetchResult)
    (hf : s.fetch = .answered (.stage i b n) r) : RecordsChange s (s.endFetch.serveStageAnswer i n r) := by
  have ended : RecordsChange s s.endFetch := same rfl
  unfold State.serveStageAnswer
  repeat' split
  · exact ended.respond _ _ _ _
  · next e running =>
    exact (ended.write i (s.endFetch.slot_capture i · _ n e) (.advanced b n e _ _ hf running)).respond _ _ _ _
  · exact ended.respond _ _ _ _
  · exact ended.respond _ _ _ _

theorem serveLimitsAnswer (h : RecordsChange s t) (i : Slot) (r : FetchResult) : RecordsChange s (t.serveLimitsAnswer i r) := by
  unfold State.serveLimitsAnswer
  repeat' split
  · exact h.respond _ _ _ _
  · next complete =>
    exact (h.gradeToSpinDown i (t.slot i).fault _ _ (by rw [complete]; decide)).respond _ _ _ _
  · exact h.respond _ _ _ _
  · exact h.respond _ _ _ _

theorem serveMeasure (h : RecordsChange s t) (a b c : Nat) : RecordsChange s (serveMeasure a b c t).1 := by
  unfold Machine.serveMeasure
  repeat' split
  · next hs => exact h.putSlot _ (.measured _ (by rcases hs with hs | hs <;> rw [hs] <;> rfl))
  · exact h
  · exact h

theorem serveAdvance (h : RecordsChange s t) (n : Nat) : RecordsChange s (serveAdvance n t).1 := by
  unfold Machine.serveAdvance
  dsimp only
  repeat' split
  · exact h
  · exact h
  · exact h
  · exact h
  · next i _ running _ _ _ _ _ =>
    have disarmed : RecordsChange s (t.arm i none) := h.of_slots rfl
    exact disarmed.putSlot i (.completed (not_not.1 running))
  · exact h.of_slots rfl

/-- ABORT grades a powered drive, or grades a LOADED one and sends it to dispatch in the same event (R66). -/
theorem serveAbort (h : RecordsChange s t) (a b : Nat) : RecordsChange s (serveAbort a b t).1 := by
  unfold Machine.serveAbort
  dsimp only
  repeat' split
  · next i k _ _ loaded =>
    have graded := fun j => t.slot_gradeSlot i j (t.faulted i k) none t.pcu.generation
    obtain ⟨st, hst, written⟩ := (t.gradeSlot i (t.faulted i k) none t.pcu.generation).slot_dispatch i
      (by rw [graded, if_pos rfl]; rfl)
    refine h.write i (fun j => (written j).trans ?_) (.graded (some (k, t.now)) none t.pcu.generation t.now st (t.slot i).exit
      (by rw [loaded]; decide) (by rcases hst with rfl | rfl <;> rfl))
    rw [graded, graded, if_pos rfl]
    split <;> rfl
  · next i k _ _ _ powered =>
    exact h.gradeToSpinDown i _ none _ (by intro e; rw [e] at powered; cases powered)
  · exact h
  · exact h

/-! ### Requests (log entry 5) -/

/-- A request served by its block, refused by its link, or answered OVERRUN. -/
theorem request (s : State) (l : Link) (c : Instr) (serve : State → State × Reply) (hs : RecordsChange s (serve s).1) :
    RecordsChange s (s.request l c serve) := by
  rcases s.request_cases l c serve with e | e | e <;> rw [e]
  · exact hs.of_slots (by simp)
  · exact same (by simp)
  · exact same (by simp)

/-- Every service but SET SERIAL: those that write slot records, and the others, which leave them alone. -/
theorem service (s : State) (c : Instr) (hn : ∀ n cs, c ≠ .setSerial n cs) : RecordsChange s (service c s).1 := by
  cases c with
  | setSerial n cs => exact absurd rfl (hn n cs)
  | powerOn n => exact servePowerOn s n
  | advance n => exact (RecordsChange.refl s).serveAdvance n
  | measure a b c => exact (RecordsChange.refl s).serveMeasure a b c
  | abort a b => exact (RecordsChange.refl s).serveAbort a b
  | accessDone a b => exact (RecordsChange.refl s).serveAccessDone a b
  | quiet n => exact (RecordsChange.refl s).serveQuiet n
  | openTote a b c => exact serveOpenTote s a b c
  | _ => exact same (by simp [Machine.service, storeRequest_frame])

/-! ### Events: each serves what is on its way, or changes nothing (log entry 2) -/

theorem deadlineExpiry (i : Slot) (ht : execDeadlineExpiry i s = .next t) : RecordsChange s t := by
  unfold execDeadlineExpiry at ht
  split at ht <;> cases ht
  · exact .refl s
  · exact ((RecordsChange.refl s).setMail i _).serveExpiry i _

theorem creditEvent (i : Slot) (ht : execCreditEvent i s = .next t) : RecordsChange s t := by
  unfold execCreditEvent at ht
  split at ht <;> cases ht
  · exact .refl s
  · exact serveCredit s i _

theorem presencePresentAtSsq (i : Slot) (ht : execPresencePresentAtSsq i s = .next t) : RecordsChange s t := by
  unfold execPresencePresentAtSsq at ht
  split at ht <;> cases ht
  · exact ((RecordsChange.refl s).setMail i _).servePresent i _
  · exact .refl s

theorem presenceAbsentAtSsq (i : Slot) (ht : execPresenceAbsentAtSsq i s = .next t) : RecordsChange s t := by
  unfold execPresenceAbsentAtSsq at ht
  split at ht <;> cases ht
  · exact serveAbsent s i _
  · exact .refl s

theorem latchOpenAtSsq (i : Slot) (ht : execLatchOpenAtSsq i s = .next t) : RecordsChange s t := by
  unfold execLatchOpenAtSsq at ht
  split at ht <;> cases ht
  · exact ((RecordsChange.refl s).setMail i _).serveLatchOpen i
  · exact .refl s

theorem latchClosedAtSsq (i : Slot) (ht : execLatchClosedAtSsq i s = .next t) : RecordsChange s t := by
  unfold execLatchClosedAtSsq at ht
  split at ht <;> cases ht
  · exact ((RecordsChange.refl s).setMail i _).putSlot i (.switched _ true)
  · exact .refl s

theorem disturbanceOrder (i : Slot) (ht : execDisturbanceOrder i s = .next t) : RecordsChange s t := by
  unfold execDisturbanceOrder at ht
  split at ht <;> cases ht
  · exact .refl s
  · exact ((RecordsChange.refl s).setMail i _).applyDisturbance i

theorem askOrder (i : Slot) (ht : execAskOrder i s = .next t) : RecordsChange s t := by
  unfold execAskOrder at ht
  split at ht <;> cases ht
  · exact .refl s
  · exact ((RecordsChange.refl s).setMail i _).applyAsk i

theorem releaseQuietOrder (i : Slot) (ht : execReleaseQuietOrder i s = .next t) : RecordsChange s t := by
  unfold execReleaseQuietOrder at ht
  split at ht <;> cases ht
  · exact .refl s
  · exact ((RecordsChange.refl s).setMail i _).applyRelease i

theorem overtempEvent (i : Slot) (ht : execOvertempEvent i s = .next t) : RecordsChange s t := by
  unfold execOvertempEvent at ht
  split at ht <;> cases ht
  · exact .refl s
  · exact ((RecordsChange.refl s).setMail i _).serveOvertemp i

theorem powerOffOrder (i : Slot) (ht : execPowerOffOrder i s = .next t) : RecordsChange s t := by
  unfold execPowerOffOrder at ht
  split at ht <;> cases ht
  · exact ((RecordsChange.refl s).setMail i _).runPowerOff i _
  · exact .refl s

theorem spinDownExpiry (i : Slot) (ht : execSpinDownExpiry i s = .next t) : RecordsChange s t := by
  unfold execSpinDownExpiry at ht
  split at ht <;> cases ht
  · exact ((RecordsChange.refl s).setMail i _).serveSpunDown i
  · exact .refl s

theorem spinUpStartReport (i : Slot) (ht : execSpinUpStartReport i s = .next t) : RecordsChange s t := by
  have dropped : RecordsChange s (s.dropReport i) := (RecordsChange.refl s).setMail i _
  unfold execSpinUpStartReport at ht
  repeat' split at ht
  all_goals cases ht
  · next hs =>
    exact dropped.putSlot i (.powered .spinUp (s.slot i).exit (r := s.slot i) (by rw [SlotRecord.isFresh, hs]) rfl)
  · exact dropped
  · exact .refl s

theorem spinUpExpiry (i : Slot) (ht : execSpinUpExpiry i s = .next t) : RecordsChange s t := by
  have dropped : RecordsChange s (s.dropReport i) := (RecordsChange.refl s).setMail i _
  unfold execSpinUpExpiry at ht
  repeat' split at ht
  all_goals cases ht
  · next hs =>
    exact (dropped.putSlot i
      (.powered .ready (s.slot i).exit (r := s.slot i) (by rw [SlotRecord.isFresh, hs]) rfl)).post _ _
  · exact dropped
  · exact .refl s

theorem startFetchAnswer (ht : execStartFetchAnswer s = .next t) : RecordsChange s t := by
  unfold execStartFetchAnswer at ht
  split at ht <;> cases ht
  · next hf => exact serveStartAnswer s _ _ _ hf
  · exact .refl s

theorem stageFetchAnswer (ht : execStageFetchAnswer s = .next t) : RecordsChange s t := by
  unfold execStageFetchAnswer at ht
  split at ht <;> cases ht
  · next hf => exact serveStageAnswer s _ _ _ _ hf
  · exact .refl s

theorem limitsFetchAnswer (ht : execLimitsFetchAnswer s = .next t) : RecordsChange s t := by
  have ended : RecordsChange s s.endFetch := same rfl
  unfold execLimitsFetchAnswer at ht
  split at ht <;> cases ht
  · exact ended.serveLimitsAnswer _ _
  · exact .refl s

/-- The reset effect clears every record and its switches (R76). -/
theorem afterReset (s : State) (cells : Vector RecipeBlock 32) (m : StoreMode) (n : Nat) (q : List Instr) :
    RecordsChange s (State.afterReset cells m n q) := fun i => by
  have clear : (State.afterReset cells m n q).slot i = SlotRecord.reset := tget_replicate ..
  rw [clear]
  exact (Relation.ReflTransGen.single (.switched false false)).tail .cleared

/-- The events: those that write slot records, and the others, each of which leaves them alone. -/
theorem event (c : Instr) (hr : requestLink c = none) (ht : Machine.exec c s = .next t) : RecordsChange s t := by
  cases c with
  | resetEffect => cases ht; exact afterReset s _ _ _ _
  | deadlineExpiry i => exact deadlineExpiry i ht
  | creditEvent i => exact creditEvent i ht
  | presencePresentAtSsq i => exact presencePresentAtSsq i ht
  | presenceAbsentAtSsq i => exact presenceAbsentAtSsq i ht
  | latchOpenAtSsq i => exact latchOpenAtSsq i ht
  | latchClosedAtSsq i => exact latchClosedAtSsq i ht
  | disturbanceOrder i => exact disturbanceOrder i ht
  | askOrder i => exact askOrder i ht
  | releaseQuietOrder i => exact releaseQuietOrder i ht
  | overtempEvent i => exact overtempEvent i ht
  | powerOffOrder i => exact powerOffOrder i ht
  | spinDownExpiry i => exact spinDownExpiry i ht
  | spinUpStartReport i => exact spinUpStartReport i ht
  | spinUpExpiry i => exact spinUpExpiry i ht
  | startFetchAnswer => exact startFetchAnswer ht
  | stageFetchAnswer => exact stageFetchAnswer ht
  | limitsFetchAnswer => exact limitsFetchAnswer ht
  | rackTimeAdvance => exact same (by simp [execRackTimeAdvance_frame s t ht])
  | sample p q => exact same (by simp [execSample_frame s t p q ht])
  | requestFrame l bs => exact same (by simp [execRequestFrame_frame s t l bs ht])
  | lengthFault l x => exact same (by simp [execLengthFault_frame s t l x ht])
  | receivedByte l x => exact same (by simp [execReceivedByte_frame s t l x ht])
  | frameTimeout l => exact same (by simp [execFrameTimeout_frame s t l ht])
  | responseSent l => exact same (by simp [execResponseSent_frame s t l ht])
  | accountingTick => exact same (by simp [execAccountingTick_frame s t ht])
  | presenceChangeAtQac i => exact same (by simp [execPresenceChangeAtQac_frame s t i ht])
  | spinUpTimerExpiry i => exact same (by simp [execSpinUpTimerExpiry_frame s t i ht])
  | spinDownOrder i => exact same (by simp [execSpinDownOrder_frame s t i ht])
  | releaseOrder i => exact same (by simp [execReleaseOrder_frame s t i ht])
  | spinDownTimerExpiry i => exact same (by simp [execSpinDownTimerExpiry_frame s t i ht])
  | startFetch => exact same (by simp [execStartFetch_frame s t ht])
  | stageFetch => exact same (by simp [execStageFetch_frame s t ht])
  | limitsFetch => exact same (by simp [execLimitsFetch_frame s t ht])
  | captureReport i => exact same (by simp [execCaptureReport_frame s t i ht])
  | slotChangeReport i => exact same (by simp [execSlotChangeReport_frame s t i ht])
  | quietTimeoutExpiry r => exact same (by simp [execQuietTimeoutExpiry_frame s t r ht])
  | holdLimitExpiry r => exact same (by simp [execHoldLimitExpiry_frame s t r ht])
  | scanStart => exact same (by simp [execScanStart_frame s t ht])
  | sensorReading r => exact same (by simp [execSensorReading_frame s t r ht])
  | programCompletion q => exact same (by simp [execProgramCompletion_frame s t q ht])
  | eraseCompletion q => exact same (by simp [execEraseCompletion_frame s t q ht])
  | blankCheckCompletion q => exact same (by simp [execBlankCheckCompletion_frame s t q ht])
  | lockCompletion => exact same (by simp [execLockCompletion_frame s t ht])
  | clearBlockErasure => exact same (by simp [execClearBlockErasure_frame s t ht])
  | clearBlockCompletion q => exact same (by simp [execClearBlockCompletion_frame s t q ht])
  | suspensionEvent => exact same (by simp [execSuspensionEvent_frame s t ht])
  | _ => cases hr

/-- Every command but SET SERIAL makes chains of such changes. -/
theorem exec (c : Instr) (hn : ∀ n cs, c ≠ .setSerial n cs) (ht : Machine.exec c s = .next t) : RecordsChange s t := by
  cases hr : requestLink c with
  | some l =>
    rw [exec_request c l s hr] at ht
    cases ht
    exact request s l c _ (service s c hn)
  | none => exact event c hr ht

end RecordsChange

/-! ### SET SERIAL (R53) -/

/-- What SET SERIAL does: nothing, or it writes a legal serial that no other place holds over the record of a present drive. -/
theorem serveSetSerial_cases (n : Nat) (cs : List Byte) (s : State) : (serveSetSerial n cs s).1 = s ∨
    ∃ (i : Slot) (ds : List Byte), stringIn? 1 20 ds = some ds ∧ (s.slot i).state.takesSerial = true ∧
      s.serialHeld i ds = false ∧ (serveSetSerial n cs s).1 = s.putSlot i { s.slot i with serial := some ds } := by
  unfold serveSetSerial
  split
  · next i ds _ hds =>
    rw [stringIn?_eq] at hds
    split at hds
    · next legal =>
      cases hds
      repeat' split
      · exact .inl rfl
      · exact .inl rfl
      · next takes free =>
        exact .inr ⟨i, cs, (stringIn?_eq 1 20 cs).trans (if_pos legal), by simpa using takes, by simpa using free, rfl⟩
    · cases hds
  · exact .inl rfl

/-- The records and the totes after a SET SERIAL command are those of its service, or they are as they were. -/
theorem execSetSerial_cases (n : Nat) (cs : List Byte) (s t : State) (ht : exec (.setSerial n cs) s = .next t) :
    t.slots = s.slots ∧ t.ttb = s.ttb ∨
      t.slots = (serveSetSerial n cs s).1.slots ∧ t.ttb = (serveSetSerial n cs s).1.ttb := by
  cases ht
  rcases s.request_cases .test (.setSerial n cs) (serveSetSerial n cs) with e | e | e <;> rw [e]
  · exact .inr (by simp)
  · exact .inl (by simp)
  · exact .inl (by simp)

theorem SlotState.ne_empty_of_takesSerial {st : SlotState} (h : st.takesSerial = true) : st ≠ .empty := by
  rintro rfl
  cases h

theorem Lawful.records_setSerial {s t : State} (h : Lawful s) (n : Nat) (cs : List Byte)
    (ht : exec (.setSerial n cs) s = .next t) (j : Slot) : RecordLaws (t.slot j) := by
  rcases execSetSerial_cases n cs s t ht with ⟨e, -⟩ | ⟨e, -⟩ <;> rw [State.slot_of_slots e]
  · exact h.records j
  · rcases serveSetSerial_cases n cs s with e | ⟨i, ds, legal, takes, -, e⟩ <;> rw [e]
    · exact h.records j
    · rw [State.slot_putSlot]
      split
      · exact (h.records i).named (SlotState.ne_empty_of_takesSerial takes) legal
      · exact h.records j

/-- Settles O34: SET SERIAL writes a legal serial, and every other command makes chains of lawful changes. -/
theorem slotRecordLawsAreKept : Obligations.SlotRecordLawsAreKept := by
  intro s t h ht i
  rcases step_cases s t ht with rfl | ⟨c, rest, -, hc⟩
  · exact h.records i
  · have lawful : Lawful { s with pending := rest } := h.setPending rest
    by_cases hn : ∃ n cs, c = .setSerial n cs
    · obtain ⟨n, cs, rfl⟩ := hn
      exact lawful.records_setSerial n cs hc i
    · exact (RecordsChange.exec c (fun n cs e => hn ⟨n, cs, e⟩) hc).laws lawful i

end Sys2Proof.Machine
end

section
/-! Serials (R53, R54, R164): where a tote holds one, and that every step keeps them distinct. Only SET SERIAL brings a serial to
a slot, and only a placed unload brings one, its slot's, to a tote. -/

namespace Sys2Proof.Machine

/-! ### Serials of a tote -/

theorem Tote.serialAt?_eq_some (r : Tote) (p : Nat) (cs : List Byte) : r.serialAt? p = some cs ↔
    ∃ b e, r.body? = some b ∧ b.positions[p]? = some (.filled e) ∧ e.serial = some cs := by
  unfold Tote.serialAt?
  cases r.body? with
  | none => simp
  | some b =>
    cases hx : b.positions[p]? with
    | none => simp [hx]
    | some x => cases x <;> simp [hx]

theorem Tote.holdsSerial_iff (r : Tote) (cs : List Byte) : r.holdsSerial cs = true ↔
    ∃ b e, r.body? = some b ∧ Position.filled e ∈ b.positions ∧ e.serial = some cs := by
  unfold Tote.holdsSerial
  cases r.body? with
  | none => simp
  | some b =>
    simp only [List.any_eq_true, Option.some.injEq]
    constructor
    · rintro ⟨x, hx, h⟩
      cases x with
      | filled e => exact ⟨b, e, rfl, hx, beq_iff_eq.1 h⟩
      | _ => cases h
    · rintro ⟨b, e, rfl, hx, h⟩
      exact ⟨.filled e, hx, beq_iff_eq.2 h⟩

theorem Tote.holdsSerial_iff_serialAt? (r : Tote) (cs : List Byte) :
    r.holdsSerial cs = true ↔ ∃ p, r.serialAt? p = some cs := by
  simp only [Tote.holdsSerial_iff, Tote.serialAt?_eq_some, List.mem_iff_getElem?]
  constructor
  · rintro ⟨b, e, hb, ⟨p, hp⟩, he⟩
    exact ⟨p, b, e, hb, hp, he⟩
  · rintro ⟨p, b, e, hb, hp, he⟩
    exact ⟨b, e, hb, ⟨p, hp⟩, he⟩

theorem State.serialHeld_iff (s : State) (i : Slot) (cs : List Byte) : s.serialHeld i cs = true ↔
    (∃ j, j ≠ i ∧ (s.slot j).serial = some cs) ∨ ∃ t, (s.tote t).holdsSerial cs = true := by
  simp [State.serialHeld, mem_allSlots, mem_allTotes]

/-- Where one position of a record is replaced, the others keep their serials. -/
theorem Tote.serialAt?_put {b : ToteBody} {n p : Nat} {x : Position} {cs : List Byte}
    (h : (Tote.opened (b.put n x)).serialAt? p = some cs) :
    (Tote.opened b).serialAt? p = some cs ∨ p = n ∧ ∃ e, x = .filled e ∧ e.serial = some cs := by
  obtain ⟨c, e, hc, hp, he⟩ := (Tote.serialAt?_eq_some _ p cs).1 h
  cases hc
  change (b.positions.set n x)[p]? = _ at hp
  rw [List.getElem?_set] at hp
  split at hp
  · next hn =>
    split at hp
    · cases hp; exact .inr ⟨hn.symm, e, rfl, he⟩
    · cases hp
  · exact .inl ((Tote.serialAt?_eq_some _ p cs).2 ⟨b, e, rfl, hp, he⟩)

/-- A reservation is a position of an OPEN record. -/
theorem State.reservation?_some {s : State} {i : Slot} {t : ToteNo} {b : ToteBody} {p : Nat}
    (h : s.ttb.reservation? i = some (t, b, p)) : s.tote t = .opened b := by
  obtain ⟨u, -, hu⟩ := List.exists_of_findSome?_eq_some h
  split at hu
  · next c hc =>
    obtain ⟨n, -, hn⟩ := Option.map_eq_some_iff.1 hu
    cases hn
    exact Tote.open?_eq_some hc
  · cases hu

/-! ### Totes that take no serial -/

/-- Every serial that a tote of `t` holds stood at its place in `s`. -/
def TotesWithin (s t : State) : Prop :=
  ∀ n p cs, (t.tote n).serialAt? p = some cs → (s.tote n).serialAt? p = some cs

namespace TotesWithin

variable {s t u : State}

protected theorem refl (s : State) : TotesWithin s s := fun _ _ _ h => h

protected theorem trans (h : TotesWithin s t) (k : TotesWithin t u) : TotesWithin s u := fun n p cs hu => h n p cs (k n p cs hu)

/-- What leaves the tote records alone. -/
theorem of_totes (e : t.ttb.totes = s.ttb.totes) : TotesWithin s t := fun n p cs h => by
  rwa [State.tote, e] at h

theorem of_ttb (e : t.ttb = s.ttb) : TotesWithin s t := of_totes (by rw [e])

theorem setMail (s : State) (i : Slot) (m : Mail) : TotesWithin s (s.setMail i m) := of_totes rfl

theorem post (s : State) (k : NoticeKind) (n : Nat) : TotesWithin s (s.post k n) := of_ttb (by simp)

theorem respond (s : State) (l : Link) (e : Nat) (c : RespCode) (bs : List Byte) : TotesWithin s (s.respond l e c bs) :=
  of_ttb (by simp)

/-- One record written that holds no serial the one before it did not. -/
theorem setTote (s : State) (n : ToteNo) (r : Tote)
    (h : ∀ p cs, r.serialAt? p = some cs → (s.tote n).serialAt? p = some cs) : TotesWithin s (s.setTote n r) := by
  intro m p cs hm
  rw [State.tote_setTote] at hm
  split at hm
  · next e => subst e; exact h p cs hm
  · exact hm

/-- A position emptied or reserved. -/
theorem put {n : ToteNo} {b : ToteBody} (hb : s.tote n = .opened b) (p : Nat) (x : Position) (hx : x.isFilled = false) :
    TotesWithin s (s.setTote n (.opened (b.put p x))) := by
  refine setTote s n _ fun q cs h => ?_
  rw [hb]
  rcases Tote.serialAt?_put h with h | ⟨-, e, rfl, -⟩
  · exact h
  · cases hx

theorem reserve? {g : Bin} {i : Slot} (h : s.reserve? g i = some t) : TotesWithin s t := by
  simp only [State.reserve?, Option.bind_eq_some_iff, Option.map_eq_some_iff] at h
  obtain ⟨⟨n, b⟩, hopen, p, -, rfl⟩ := h
  exact (put (State.openFor?_some hopen).1 p (.reserved i) rfl).trans (of_totes rfl)

theorem dispatch (s : State) (i : Slot) : TotesWithin s (s.dispatch i) := by
  unfold State.dispatch
  split
  · next g _ =>
    cases ht : s.reserve? g.1 i with
    | none => exact of_totes rfl
    | some t => exact reserve? ht
  · exact .refl s

theorem serveQueue (g : Bin) (q : List Slot) : ∀ s : State, TotesWithin s (State.serveQueue g q s).1 := by
  induction q with
  | nil => exact TotesWithin.refl
  | cons i rest ih =>
    intro s
    have queued : TotesWithin s (s.setQueue g rest) := of_totes rfl
    unfold State.serveQueue
    split
    · next t ht => exact (queued.trans (reserve? ht)).trans (ih t)
    · exact .refl s

theorem releaseReservation (s : State) (i : Slot) : TotesWithin s (s.releaseReservation i) := by
  unfold State.releaseReservation
  split
  · next n b p hr =>
    have emptied := put (State.reservation?_some hr) p .empty rfl
    dsimp only
    split
    · exact emptied
    · next j rest _ =>
      have queued : TotesWithin s ((s.setTote n (.opened (b.put p .empty))).setQueue b.bin rest) :=
        emptied.trans (of_totes rfl)
      cases ht : ((s.setTote n (.opened (b.put p .empty))).setQueue b.bin rest).reserve? b.bin j with
      | none => exact emptied
      | some u => exact queued.trans (reserve? ht)
  · exact .refl s

theorem clearSlot (s : State) (i : Slot) : TotesWithin s (s.clearSlot i) :=
  of_totes (by simp [State.clearSlot, State.setNote])

theorem gradeSlot (s : State) (i : Slot) (r : SlotRecord) (l : Option Limits) (n : Nat) :
    TotesWithin s (s.gradeSlot i r l n) := of_totes (by simp [State.gradeSlot, State.setNote])

theorem gradeToSpinDown (s : State) (i : Slot) (r : SlotRecord) (l : Option Limits) (n : Nat) :
    TotesWithin s (s.gradeToSpinDown i r l n) := (gradeSlot s i _ l n).trans (of_totes rfl)

/-! ### Commands -/

theorem serveOpenTote (s : State) (a b c : Nat) : TotesWithin s (serveOpenTote a b c s).1 := by
  unfold Machine.serveOpenTote
  split
  · next n g k _ _ _ =>
    repeat' split
    · exact .refl s
    · exact .refl s
    · next t _ =>
      have opened : TotesWithin s (s.setTote t (.opened ⟨n, g, List.replicate k .empty⟩)) := by
        refine setTote s t _ fun p cs h => ?_
        obtain ⟨b, e, hb, hp, -⟩ := (Tote.serialAt?_eq_some _ p cs).1 h
        cases hb
        cases List.eq_of_mem_replicate (List.mem_of_getElem? hp)
      exact opened.trans (serveQueue g _ _)
  · exact .refl s

theorem serveCloseTote (s : State) (n : Nat) : TotesWithin s (serveCloseTote n s).1 := by
  unfold Machine.serveCloseTote
  repeat' split
  · exact .refl s
  · exact .refl s
  · next hb _ => exact setTote s _ _ fun p cs h => by rw [hb]; exact h
  · exact .refl s

theorem serveReleaseTote (s : State) (n : Nat) : TotesWithin s (serveReleaseTote n s).1 := by
  unfold Machine.serveReleaseTote
  repeat' split
  · exact .refl s
  · exact setTote s _ _ nofun
  · exact .refl s

theorem serveAbort (s : State) (a b : Nat) : TotesWithin s (serveAbort a b s).1 := by
  unfold Machine.serveAbort
  dsimp only
  repeat' split
  · exact (gradeSlot s _ _ none _).trans (dispatch _ _)
  · exact gradeToSpinDown s _ _ none _
  · exact .refl s
  · exact .refl s

/-- Every service but ACCESS DONE: those that write totes, and the others, which leave them alone. -/
theorem service (s : State) (c : Instr) (hn : ∀ a b, c ≠ .accessDone a b) : TotesWithin s (service c s).1 := by
  cases c with
  | accessDone a b => exact absurd rfl (hn a b)
  | abort a b => exact serveAbort s a b
  | openTote a b c => exact serveOpenTote s a b c
  | closeTote n => exact serveCloseTote s n
  | releaseTote n => exact serveReleaseTote s n
  | _ => exact of_ttb (by simp [Machine.service, storeRequest_frame])

theorem presenceAbsentAtSsq (i : Slot) (ht : execPresenceAbsentAtSsq i s = .next t) : TotesWithin s t := by
  have lose (u : State) (hu : u.ttb = s.ttb) : TotesWithin s (u.loseDrive i) := by
    have ordered : TotesWithin s (u.giveOrder i .release) := of_ttb hu
    unfold State.loseDrive
    dsimp only
    split
    · have left : TotesWithin (u.giveOrder i .release) ((u.giveOrder i .release).leaveQueue i) := by
        unfold State.leaveQueue
        split <;> exact of_totes rfl
      exact ((ordered.trans left).trans (clearSlot _ i)).trans (of_totes rfl)
    · exact ((ordered.trans (releaseReservation _ i)).trans (clearSlot _ i)).trans (of_totes rfl)
    · exact (ordered.trans (clearSlot _ i)).trans (of_totes rfl)
  unfold execPresenceAbsentAtSsq at ht
  split at ht <;> cases ht
  · unfold State.serveAbsent
    dsimp only
    repeat' split
    · exact of_totes rfl
    · exact of_totes rfl
    · exact lose _ rfl
  · exact .refl s

theorem serveLatchOpen (s : State) (i : Slot) : TotesWithin s (s.serveLatchOpen i) := by
  have opened : TotesWithin s (s.putSlot i { s.slot i with closed := false }) := of_totes rfl
  have graded (u : State) (hu : TotesWithin s u) :
      TotesWithin s (u.gradeToSpinDown i (u.faulted i .latchOpen) none u.pcu.generation) := hu.trans (gradeToSpinDown u i _ none _)
  unfold State.serveLatchOpen
  dsimp only
  split
  · exact of_totes rfl
  · exact graded _ opened
  · exact graded _ opened
  · exact graded _ opened
  · exact graded _ opened
  · exact opened

theorem latchOpenAtSsq (i : Slot) (ht : execLatchOpenAtSsq i s = .next t) : TotesWithin s t := by
  unfold execLatchOpenAtSsq at ht
  split at ht <;> cases ht
  · exact (setMail s i _).trans (serveLatchOpen _ i)
  · exact .refl s

theorem serveOvertemp (s : State) (i : Slot) : TotesWithin s (s.serveOvertemp i) := by
  unfold State.serveOvertemp
  split
  · exact (gradeToSpinDown s i _ none _).trans (post _ _ _)
  · exact .refl s

theorem overtempEvent (i : Slot) (ht : execOvertempEvent i s = .next t) : TotesWithin s t := by
  unfold execOvertempEvent at ht
  split at ht <;> cases ht
  · exact .refl s
  · exact (setMail s i _).trans (serveOvertemp _ i)

theorem spinDownExpiry (i : Slot) (ht : execSpinDownExpiry i s = .next t) : TotesWithin s t := by
  have dropped : TotesWithin s (s.dropReport i) := of_totes rfl
  unfold execSpinDownExpiry at ht
  split at ht <;> cases ht
  · rw [State.serveSpunDown_eq]
    repeat' split
    · exact of_totes rfl
    · exact dropped.trans (dispatch _ i)
    · exact dropped
  · exact .refl s

theorem limitsFetchAnswer (ht : execLimitsFetchAnswer s = .next t) : TotesWithin s t := by
  have ended : TotesWithin s s.endFetch := of_totes rfl
  unfold execLimitsFetchAnswer at ht
  split at ht <;> cases ht
  · unfold State.serveLimitsAnswer
    repeat' split
    · exact of_ttb (by simp)
    · exact (ended.trans (gradeToSpinDown _ _ _ _ _)).trans (respond _ _ _ _ _)
    · exact of_ttb (by simp)
    · exact of_ttb (by simp)
  · exact .refl s

/-- The events: those that reach TTB, and the others, each of which leaves the totes alone. -/
theorem event (c : Instr) (hr : requestLink c = none) (ht : Machine.exec c s = .next t) : TotesWithin s t := by
  cases c with
  | resetEffect => cases ht; exact fun n p cs h => by simp [State.tote, State.afterReset, Ttb.reset, Tote.serialAt?, Tote.body?] at h
  | presenceAbsentAtSsq i => exact presenceAbsentAtSsq i ht
  | latchOpenAtSsq i => exact latchOpenAtSsq i ht
  | overtempEvent i => exact overtempEvent i ht
  | spinDownExpiry i => exact spinDownExpiry i ht
  | limitsFetchAnswer => exact limitsFetchAnswer ht
  | deadlineExpiry i => exact of_ttb (by simp [execDeadlineExpiry_frame s t i ht])
  | creditEvent i => exact of_ttb (by simp [execCreditEvent_frame s t i ht])
  | presencePresentAtSsq i => exact of_ttb (by simp [execPresencePresentAtSsq_frame s t i ht])
  | latchClosedAtSsq i => exact of_ttb (by simp [execLatchClosedAtSsq_frame s t i ht])
  | disturbanceOrder i => exact of_ttb (by simp [execDisturbanceOrder_frame s t i ht])
  | askOrder i => exact of_ttb (by simp [execAskOrder_frame s t i ht])
  | releaseQuietOrder i => exact of_ttb (by simp [execReleaseQuietOrder_frame s t i ht])
  | powerOffOrder i => exact of_ttb (by simp [execPowerOffOrder_frame s t i ht])
  | spinUpStartReport i => exact of_ttb (by simp [execSpinUpStartReport_frame s t i ht])
  | spinUpExpiry i => exact of_ttb (by simp [execSpinUpExpiry_frame s t i ht])
  | startFetchAnswer => exact of_ttb (by simp [execStartFetchAnswer_frame s t ht])
  | stageFetchAnswer => exact of_ttb (by simp [execStageFetchAnswer_frame s t ht])
  | rackTimeAdvance => exact of_ttb (by simp [execRackTimeAdvance_frame s t ht])
  | sample p q => exact of_ttb (by simp [execSample_frame s t p q ht])
  | requestFrame l bs => exact of_ttb (by simp [execRequestFrame_frame s t l bs ht])
  | lengthFault l x => exact of_ttb (by simp [execLengthFault_frame s t l x ht])
  | receivedByte l x => exact of_ttb (by simp [execReceivedByte_frame s t l x ht])
  | frameTimeout l => exact of_ttb (by simp [execFrameTimeout_frame s t l ht])
  | responseSent l => exact of_ttb (by simp [execResponseSent_frame s t l ht])
  | accountingTick => exact of_ttb (by simp [execAccountingTick_frame s t ht])
  | presenceChangeAtQac i => exact of_ttb (by simp [execPresenceChangeAtQac_frame s t i ht])
  | spinUpTimerExpiry i => exact of_ttb (by simp [execSpinUpTimerExpiry_frame s t i ht])
  | spinDownOrder i => exact of_ttb (by simp [execSpinDownOrder_frame s t i ht])
  | releaseOrder i => exact of_ttb (by simp [execReleaseOrder_frame s t i ht])
  | spinDownTimerExpiry i => exact of_ttb (by simp [execSpinDownTimerExpiry_frame s t i ht])
  | startFetch => exact of_ttb (by simp [execStartFetch_frame s t ht])
  | stageFetch => exact of_ttb (by simp [execStageFetch_frame s t ht])
  | limitsFetch => exact of_ttb (by simp [execLimitsFetch_frame s t ht])
  | captureReport i => exact of_ttb (by simp [execCaptureReport_frame s t i ht])
  | slotChangeReport i => exact of_ttb (by simp [execSlotChangeReport_frame s t i ht])
  | quietTimeoutExpiry r => exact of_ttb (by simp [execQuietTimeoutExpiry_frame s t r ht])
  | holdLimitExpiry r => exact of_ttb (by simp [execHoldLimitExpiry_frame s t r ht])
  | scanStart => exact of_ttb (by simp [execScanStart_frame s t ht])
  | sensorReading r => exact of_ttb (by simp [execSensorReading_frame s t r ht])
  | programCompletion q => exact of_ttb (by simp [execProgramCompletion_frame s t q ht])
  | eraseCompletion q => exact of_ttb (by simp [execEraseCompletion_frame s t q ht])
  | blankCheckCompletion q => exact of_ttb (by simp [execBlankCheckCompletion_frame s t q ht])
  | lockCompletion => exact of_ttb (by simp [execLockCompletion_frame s t ht])
  | clearBlockErasure => exact of_ttb (by simp [execClearBlockErasure_frame s t ht])
  | clearBlockCompletion q => exact of_ttb (by simp [execClearBlockCompletion_frame s t q ht])
  | suspensionEvent => exact of_ttb (by simp [execSuspensionEvent_frame s t ht])
  | _ => cases hr

/-- Every command but ACCESS DONE brings no serial to a tote. -/
theorem exec (c : Instr) (hn : ∀ a b, c ≠ .accessDone a b) (ht : Machine.exec c s = .next t) : TotesWithin s t := by
  cases hr : requestLink c with
  | some l =>
    rw [exec_request c l s hr] at ht
    cases ht
    rcases s.request_cases l c (Machine.service c) with e | e | e <;> rw [e]
    · exact (service s c hn).trans (of_ttb (by simp))
    · exact of_ttb (by simp)
    · exact of_ttb (by simp)
  | none => exact event c hr ht

end TotesWithin

/-! ### Distinct serials (R54) -/

namespace SerialLaws

variable {s t : State}

/-- A tote's place and a slot hold no serial in common. -/
theorem not_in_tote (h : SerialLaws s) {i : Slot} {n : ToteNo} {p : Nat} {cs : List Byte} (hi : (s.slot i).serial = some cs)
    (hp : (s.tote n).serialAt? p = some cs) : False := by
  have held : (s.tote n).holdsSerial cs = true := (Tote.holdsSerial_iff_serialAt? _ cs).2 ⟨p, hp⟩
  rw [h.entries i n cs hi] at held
  cases held

/-- Fewer serials at the same places. -/
theorem of_within (h : SerialLaws s) (hs : ∀ i cs, (t.slot i).serial = some cs → (s.slot i).serial = some cs)
    (ht : TotesWithin s t) : SerialLaws t where
  slots i j cs hi hj := h.slots i j cs (hs i cs hi) (hs j cs hj)
  entries i n cs hi := by
    by_contra held
    obtain ⟨p, hp⟩ := (Tote.holdsSerial_iff_serialAt? _ cs).1 (Bool.eq_true_of_not_eq_false held)
    exact h.not_in_tote (hs i cs hi) (ht n p cs hp)
  totes n m p q cs hp hq := h.totes n m p q cs (ht n p cs hp) (ht m q cs hq)

theorem of_frame (h : SerialLaws s) (hs : t.slots = s.slots) (ht : t.ttb = s.ttb) : SerialLaws t :=
  h.of_within (fun i cs hi => by rwa [State.slot_of_slots hs] at hi) (.of_ttb ht)

/-- A serial that no other place holds, written to a slot (R53). -/
theorem setSerial (h : SerialLaws s) (i : Slot) (cs : List Byte) (hn : s.serialHeld i cs = false) :
    SerialLaws (s.putSlot i { s.slot i with serial := some cs }) := by
  have free : ¬ ((∃ j, j ≠ i ∧ (s.slot j).serial = some cs) ∨ ∃ n, (s.tote n).holdsSerial cs = true) := by
    rw [← s.serialHeld_iff, hn]; decide
  obtain ⟨noSlot, noTote⟩ := not_or.1 free
  have holds (j : Slot) (ds : List Byte) : ((s.putSlot i { s.slot i with serial := some cs }).slot j).serial = some ds →
      j = i ∧ ds = cs ∨ j ≠ i ∧ (s.slot j).serial = some ds := by
    intro hj
    rw [State.slot_putSlot] at hj
    split at hj
    · next e => cases hj; exact .inl ⟨e, rfl⟩
    · next e => exact .inr ⟨e, hj⟩
  refine ⟨fun j k ds hj hk => ?_, fun j n ds hj => ?_, h.totes⟩
  · rcases holds j ds hj with ⟨ej, dj⟩ | ⟨ej, sj⟩ <;> rcases holds k ds hk with ⟨ek, dk⟩ | ⟨ek, sk⟩
    · exact ej.trans ek.symm
    · exact absurd ⟨k, ek, dj ▸ sk⟩ noSlot
    · exact absurd ⟨j, ej, dk ▸ sj⟩ noSlot
    · exact h.slots j k ds sj sk
  · rcases holds j ds hj with ⟨rfl, rfl⟩ | ⟨-, hj⟩
    · exact Bool.eq_false_iff.2 fun held => noTote ⟨n, held⟩
    · exact h.entries j n ds hj

end SerialLaws

/-- A placed unload brings the serial of its slot to one place (R164). -/
theorem State.serialAt?_fillReservation (s : State) (i : Slot) : ∃ (t : ToteNo) (p : Nat), ∀ n q cs,
    ((s.fillReservation i).tote n).serialAt? q = some cs →
      (s.tote n).serialAt? q = some cs ∨ (s.slot i).serial = some cs ∧ n = t ∧ q = p := by
  cases hr : s.ttb.reservation? i with
  | none =>
    have same : s.fillReservation i = s := by simp only [State.fillReservation, hr]
    exact ⟨0, 0, fun n q cs h => .inl (same ▸ h)⟩
  | some x =>
    obtain ⟨t, b, p⟩ := x
    have totes : (s.fillReservation i).ttb = (s.setTote t (.opened (b.put p (.filled (s.entryFor i))))).ttb := by
      simp only [State.fillReservation, hr]
      split <;> rfl
    refine ⟨t, p, fun n q cs h => ?_⟩
    rw [State.tote, totes] at h
    change ((s.setTote t _).tote n).serialAt? q = some cs at h
    rw [State.tote_setTote] at h
    split at h
    · next e =>
      rw [e, State.reservation?_some hr]
      rcases Tote.serialAt?_put h with h | ⟨hq, e', he, hs⟩
      · exact .inl h
      · cases he; exact .inr ⟨hs, rfl, hq⟩
    · exact .inl h

namespace SerialLaws

variable {s t : State}

/-- A placed unload moves its serial from the slot to the tote (R71, R164). -/
theorem unloadPlaced (h : SerialLaws s) (i : Slot) : SerialLaws (s.unloadPlaced i) := by
  unfold State.unloadPlaced
  split
  · obtain ⟨t, p, filled⟩ := s.serialAt?_fillReservation i
    have totes (n q cs) : (((s.fillReservation i).clearSlot i).tote n).serialAt? q = some cs →
        (s.tote n).serialAt? q = some cs ∨ (s.slot i).serial = some cs ∧ n = t ∧ q = p :=
      fun hq => filled n q cs (TotesWithin.clearSlot _ i n q cs hq)
    have same : (s.fillReservation i).slots = s.slots := by simp
    have slots (j cs) : (((s.fillReservation i).clearSlot i).slot j).serial = some cs → j ≠ i ∧ (s.slot j).serial = some cs := by
      intro hj
      rw [State.slot_clearSlot] at hj
      split at hj
      · cases hj
      · next e => exact ⟨e, by rwa [State.slot_of_slots same] at hj⟩
    refine ⟨fun j k cs hj hk => h.slots j k cs (slots j cs hj).2 (slots k cs hk).2, fun j n cs hj => ?_,
      fun n m q r cs hq hr => ?_⟩
    · obtain ⟨other, hj⟩ := slots j cs hj
      by_contra held
      obtain ⟨q, hq⟩ := (Tote.holdsSerial_iff_serialAt? _ cs).1 (Bool.eq_true_of_not_eq_false held)
      rcases totes n q cs hq with hq | ⟨hi, -⟩
      · exact h.not_in_tote hj hq
      · exact other (h.slots j i cs hj hi)
    · rcases totes n q cs hq with hq | ⟨hi, hn, hp⟩ <;> rcases totes m r cs hr with hr | ⟨hi', hm, hp'⟩
      · exact h.totes n m q r cs hq hr
      · exact (h.not_in_tote hi' hq).elim
      · exact (h.not_in_tote hi hr).elim
      · exact ⟨hn.trans hm.symm, hp.trans hp'.symm⟩
  · exact h

theorem serveAccessDone (h : SerialLaws s) (a b : Nat) : SerialLaws (serveAccessDone a b s).1 := by
  have freed {u : State} (hu : SerialLaws u) (r : Fin 2) : SerialLaws (u.freeAccess r) := hu.of_frame (by simp) (by simp)
  have loaded (i : Slot) : SerialLaws (s.loadPlaced i) :=
    h.of_within (fun j _ => ((RecordsChange.refl s).loadPlaced i).serial j) (.of_ttb (by simp))
  unfold Machine.serveAccessDone
  repeat' split
  · unfold State.endAccess
    dsimp only
    repeat' split
    · exact freed (loaded _) _
    · exact h
    · exact h
    · exact freed (h.unloadPlaced _) _
    · exact freed h _
    · exact h
  all_goals exact h

/-- Every command keeps serials distinct: SET SERIAL, ACCESS DONE, and the others, which bring a serial to no place. -/
theorem exec (h : SerialLaws s) (c : Instr) (ht : Machine.exec c s = .next t) : SerialLaws t := by
  by_cases hset : ∃ n cs, c = .setSerial n cs
  · obtain ⟨n, cs, rfl⟩ := hset
    rcases execSetSerial_cases n cs s t ht with ⟨hs, hq⟩ | ⟨hs, hq⟩
    · exact h.of_frame hs hq
    · refine of_frame ?_ hs hq
      rcases serveSetSerial_cases n cs s with e | ⟨i, ds, -, -, free, e⟩ <;> rw [e]
      · exact h
      · exact h.setSerial i ds free
  by_cases hdone : ∃ a b, c = .accessDone a b
  · obtain ⟨a, b, rfl⟩ := hdone
    cases ht
    rcases s.request_cases .handler (.accessDone a b) (Machine.serveAccessDone a b) with e | e | e <;> rw [e]
    · exact (h.serveAccessDone a b).of_frame (by simp) (by simp)
    · exact h.of_frame (by simp) (by simp)
    · exact h.of_frame (by simp) (by simp)
  · have records : RecordsChange s t := RecordsChange.exec c (fun n cs e => hset ⟨n, cs, e⟩) ht
    exact h.of_within (fun i _ => records.serial i) (TotesWithin.exec c (fun a b e => hdone ⟨a, b, e⟩) ht)

end SerialLaws

/-- Settles O35: every command keeps serials distinct. -/
theorem serialsStayDistinct : Obligations.SerialsStayDistinct := by
  intro s t h ht
  rcases step_cases s t ht with rfl | ⟨c, rest, -, hc⟩
  · exact h
  · exact (h.of_frame (t := { s with pending := rest }) rfl rfl).exec c hc

end Sys2Proof.Machine
end

section
/-! What a record's write, a capture and a grading do to the state (R50, R56, R67), written out field by field. -/

namespace Sys2Proof.Machine

/-! ### Writing a record (R50) -/

theorem SlotRecord.reportable_iff (old new : SlotRecord) : old.reportable new = true ↔
    ¬ (old.state = new.state ∧ old.stage = new.stage ∧ old.quiet = new.quiet) := by
  simp only [SlotRecord.reportable, Bool.not_eq_true', ← Bool.not_eq_true, Bool.and_eq_true, beq_iff_eq, and_assoc]

theorem State.putSlot_eq (s : State) (i : Slot) (r : SlotRecord) : s.putSlot i r = { s with
    slots := tset s.slots i r
    mail := tset s.mail i (if (s.slot i).state = r.state ∧ (s.slot i).stage = r.stage ∧ (s.slot i).quiet = r.quiet then s.mailOf i
      else { s.mailOf i with changes := (s.mailOf i).changes + 1 }) } := by
  simp only [State.putSlot, SlotRecord.reportable_iff, ite_not]

/-! ### The watch list entry of a slot (R24, R27) -/

theorem State.arm_none (s : State) (i : Slot) :
    s.arm i none = { s with rck := { s.rck with watch := tset s.rck.watch i none } } := by
  have kept : tset s.mail i (s.mailOf i) = s.mail := tset_tget s.mail i
  simp only [State.arm, firedAt_none, Mail.withExpiry, kept, Option.isSome_none, Bool.false_eq_true, if_false]

theorem isSome_firedAt_map (now : RackTime) (n : Nat) (deadline : Option RackTime) :
    (firedAt now (deadline.map fun d => ⟨d, n⟩)).isSome = deadline.any now.reaches := by
  cases deadline with
  | none => rfl
  | some d => by_cases h : now.reaches d <;> simp [firedAt, h]

theorem Mail.withExpiry_firedAt (m : Mail) (now : RackTime) (entry : Option Deadline) : m.withExpiry (firedAt now entry) =
    { m with deadlines := if (firedAt now entry).isSome then m.deadlines ++ entry.toList else m.deadlines } := by
  cases entry with
  | none => rfl
  | some d => by_cases h : now.reaches d.time <;> simp [firedAt, h, Mail.withExpiry]

theorem RackTime.deadlineAfter_eq (now : RackTime) (m : Nat) : now.deadlineAfter m =
    if now.seconds + 60 * m ≤ 4294967295 then ⟨now.seconds + 60 * m, now.millis⟩ else ⟨4294967295, 999⟩ := by
  rw [RackTime.deadlineAfter, Nat.mul_comm m 60]
  by_cases h : now.seconds + 60 * m ≤ 4294967295
  · rw [if_neg (Nat.not_lt.2 h), if_pos h]
  · rw [if_pos (Nat.not_le.1 h), if_neg h]; rfl

/-! ### A capture (R56) -/

/-- A record written and reported as a capture: at most a change more for QAC, and a capture more for TAU (R50). -/
theorem State.reportCapture_putSlot (s : State) (i : Slot) (r : SlotRecord) : (s.putSlot i r).reportCapture i = { s with
    slots := tset s.slots i r
    mail := tset s.mail i { s.mailOf i with
      changes := if (s.slot i).state = r.state ∧ (s.slot i).stage = r.stage ∧ (s.slot i).quiet = r.quiet then (s.mailOf i).changes
        else (s.mailOf i).changes + 1
      captures := (s.mailOf i).captures + 1 } } := by
  by_cases same : (s.slot i).state = r.state ∧ (s.slot i).stage = r.stage ∧ (s.slot i).quiet = r.quiet
  · simp only [State.putSlot_eq, if_pos same, State.reportCapture, State.setMail, State.mailOf, tget_tset_same, tset_tset]
  · simp only [State.putSlot_eq, if_neg same, State.reportCapture, State.setMail, State.mailOf, tget_tset_same, tset_tset]

/-- Settles O27: the fields of the capture, the new watch list entry being due at once exactly when rack time has reached
it. -/
theorem capturesWriteTheStage : Obligations.CapturesWriteTheStage := by
  intro i r n e s now deadline entry fires r' m old
  have limit : e.limit.map s.now.deadlineAfter = deadline := congrArg (e.limit.map ·) (funext now.deadlineAfter_eq)
  have record : r.captured n e s.now (s.holdCount i) = r' := by
    rw [SlotRecord.captured, StageEntry.context, limit]; rfl
  have due : (firedAt s.now entry).isSome = fires := by
    rw [isSome_firedAt_map]
    cases hd : deadline with
    | none => simp only [fires, hd, Option.any_none]
    | some d =>
      simp only [fires, hd, Option.any_some, RackTime.reaches, Bool.decide_or, Bool.decide_and, eq_comm (a := d.seconds)]
      rfl
  have shape : s.capture i r n e = ((s.arm i entry).putSlot i r').reportCapture i := by
    rw [State.capture, record, StageEntry.context, limit]
  have mail : (s.arm i entry).mailOf i = { m with deadlines := if fires then m.deadlines ++ entry.toList else m.deadlines } := by
    rw [← due, ← Mail.withExpiry_firedAt]
    exact tget_tset_same ..
  rw [shape, State.reportCapture_putSlot, mail, State.arm, due, tset_tset]
  rfl

/-! ### A grading (R67) -/

/-- Settles O28: the write of the graded record, after the reference, the watch list entry and the note. -/
theorem gradingsWriteTheRecord : Obligations.GradingsWriteTheRecord := by
  intro i r limits generation s evidence r' m old
  rw [State.gradeSlot, State.arm_none, State.putSlot_eq]
  cases h : r.recipe <;> simp only [State.releaseRefOf, SlotRecord.note, h] <;> rfl

end Sys2Proof.Machine
end

section
/-! SSQ's requests, each by its checks in order (R53, R55, R61 to R64). -/

namespace Sys2Proof.Machine

/-! ### SET SERIAL (R53) -/

theorem SlotState.takesSerial_iff (st : SlotState) :
    st.takesSerial = true ↔ st ∈ [.loaded, .spinUpWait, .spinUp, .ready, .running] := by
  cases st <;> decide

/-- Another slot or a filled entry of a tote holds the serial. -/
theorem State.serialHeld_iff_entry (s : State) (i : Slot) (cs : List Byte) : s.serialHeld i cs = true ↔
    (∃ j, j ≠ i ∧ (s.slot j).serial = some cs) ∨
      ∃ t b e, (s.tote t).body? = some b ∧ Position.filled e ∈ b.positions ∧ e.serial = some cs := by
  simp only [State.serialHeld_iff, Tote.holdsSerial_iff]

theorem serveSetSerial_range (n : Nat) (cs : List Byte) (s : State) (h : 24 ≤ n ∨
    ¬ (1 ≤ cs.length ∧ cs.length ≤ 20 ∧ ∀ b ∈ cs, 0x20 ≤ b.toNat ∧ b.toNat ≤ 0x7E)) :
    serveSetSerial n cs s = (s, .refuse .range) := by
  rcases h with h | h
  · simp only [serveSetSerial, slotOf?_none h]
  · simp only [serveSetSerial, stringIn?_eq, if_neg h]
    cases slotOf? n <;> rfl

theorem serveSetSerial_slot (i : Slot) (cs : List Byte) (s : State)
    (h : 1 ≤ cs.length ∧ cs.length ≤ 20 ∧ ∀ b ∈ cs, 0x20 ≤ b.toNat ∧ b.toNat ≤ 0x7E) : serveSetSerial i.val cs s =
      if (s.slot i).state.takesSerial = false then (s, .refuse .wrongState)
      else if s.serialHeld i cs then (s, .refuse .duplicate)
      else (s.putSlot i { s.slot i with serial := some cs }, .done []) := by
  simp only [serveSetSerial, slotOf?_val, stringIn?_eq, if_pos h]

/-! ### MEASURE (R63) -/

theorem serveMeasure_range (n m v : Nat) (s : State) (h : 24 ≤ n ∨ 8 ≤ m ∨ 4294967295 < v) :
    serveMeasure n m v s = (s, .refuse .range) := by
  rcases h with h | h | h
  · simp only [serveMeasure, slotOf?_none h]
  · simp only [serveMeasure, measureOf?_none h]
    cases slotOf? n <;> rfl
  · simp only [serveMeasure, natIn?_out (lo := 0) (.inr h)]
    cases slotOf? n <;> cases measureOf? m <;> rfl

theorem serveMeasure_slot (i : Slot) (k : MeasureId) (v : Nat) (s : State) (h : v ≤ 4294967295) :
    serveMeasure i.val k.val v s =
      if (s.slot i).state = .running ∨ (s.slot i).state = .complete then
        (s.putSlot i { s.slot i with measures := tset (s.slot i).measures k (some v) }, .done [])
      else (s, .refuse .wrongState) := by
  simp only [serveMeasure, slotOf?_val, measureOf?_val, natIn?_in (lo := 0) ⟨v.zero_le, h⟩]

/-! ### START and FINISH (R55, R64) -/

theorem serveStart_range (n id : Nat) (s : State) (h : 24 ≤ n ∨ id = 0 ∨ 65535 < id) :
    serveStart n id s = (s, .refuse .range) := by
  rcases h with h | h
  · simp only [serveStart, slotOf?_none h]
  · simp only [serveStart, natIn?_out (lo := 1) (h.imp_left Nat.lt_one_iff.2)]
    cases slotOf? n <;> rfl

theorem serveStart_wrongState (i : Slot) (id : Nat) (s : State) (lo : 1 ≤ id) (hi : id ≤ 65535)
    (h : (s.slot i).state ≠ .ready ∨ (s.slot i).serial = none) : serveStart i.val id s = (s, .refuse .wrongState) := by
  simp only [serveStart, slotOf?_val, natIn?_in ⟨lo, hi⟩]
  by_cases ready : (s.slot i).state = .ready
  · rw [if_neg (not_not.2 ready), if_pos (h.resolve_left (not_not.2 ready))]
  · rw [if_pos ready]

theorem serveStart_ready (i : Slot) (id : Nat) (s : State) (lo : 1 ≤ id) (hi : id ≤ 65535)
    (ready : (s.slot i).state = .ready) (named : (s.slot i).serial ≠ none) :
    serveStart i.val id s = ({ s with fetch := .sent (.start i id) }, .later) := by
  simp only [serveStart, slotOf?_val, natIn?_in ⟨lo, hi⟩, if_neg (not_not.2 ready), if_neg named]

theorem serveFinish_range (n : Nat) (s : State) (h : 24 ≤ n) : serveFinish n s = (s, .refuse .range) := by
  simp only [serveFinish, slotOf?_none h]

theorem serveFinish_wrongState (i : Slot) (s : State) (h : (s.slot i).state ≠ .complete) :
    serveFinish i.val s = (s, .refuse .wrongState) := by
  simp only [serveFinish, slotOf?_val, if_pos h]

theorem serveFinish_complete (i : Slot) (s : State) {ref : RecipeRef} (h : (s.slot i).state = .complete)
    (hr : (s.slot i).recipe = some ref) : serveFinish i.val s = ({ s with fetch := .sent (.limits i ref.block) }, .later) := by
  simp only [serveFinish, slotOf?_val, if_neg (not_not.2 h), hr]

/-! ### ADVANCE (R61, R62) -/

theorem SlotRecord.owesCredit_iff (r : SlotRecord) : r.owesCredit = true ↔
    r.phase = .active ∧ ∃ c t, r.context = some c ∧ c.target = some t := by
  cases h : r.context with
  | none => simp [SlotRecord.owesCredit, h]
  | some c => simp [SlotRecord.owesCredit, h, Option.isSome_iff_exists, and_comm]

theorem serveAdvance_range (n : Nat) (s : State) (h : 24 ≤ n) : serveAdvance n s = (s, .refuse .range) := by
  simp only [serveAdvance, slotOf?_none h]

theorem serveAdvance_wrongState (i : Slot) (s : State) (h : (s.slot i).state ≠ .running ∨ (s.slot i).owesCredit = true) :
    serveAdvance i.val s = (s, .refuse .wrongState) := by
  simp only [serveAdvance, slotOf?_val]
  by_cases running : (s.slot i).state = .running
  · rw [if_neg (not_not.2 running), if_pos (h.resolve_left (not_not.2 running))]
  · rw [if_pos running]

theorem serveAdvance_running (i : Slot) (s : State) {ref : RecipeRef} (h : (s.slot i).state = .running)
    (paid : ¬ (s.slot i).owesCredit = true) (hr : (s.slot i).recipe = some ref) : serveAdvance i.val s =
      if (s.slot i).stage + 1 = ref.stages then
        ((s.arm i none).putSlot i (s.slot i).completed, .done (s.slot i).completed.advanceBytes)
      else ({ s with fetch := .sent (.stage i ref.block ((s.slot i).stage + 1)) }, .later) := by
  simp only [serveAdvance, slotOf?_val, if_neg (not_not.2 h), if_neg paid, hr]

/-! ### The requests as they are served -/

/-- A request that sends its fetch and stays held. -/
theorem exec_ready_fetch (c : Instr) (s : State) (f : Fetch) (hl : requestLink c = some .test) (h : s.Ready .test c)
    (hs : service c s = ({ s with fetch := .sent f }, .later)) :
    exec c s = .next ({ s with fetch := .sent f }.setLink .test { s.testLink with held := some (.serving c) }) := by
  rw [exec_request c .test s hl, State.request_later s _ .test c _ h hs]
  rfl

theorem setSerial_served (i : Slot) (cs : List Byte) (s : State) (hr : s.Ready .test (.setSerial i.val cs))
    (legal : 1 ≤ cs.length ∧ cs.length ≤ 20 ∧ ∀ b ∈ cs, 0x20 ≤ b.toNat ∧ b.toNat ≤ 0x7E) :
    let answers (t : State) (k : RespCode) : Prop :=
      exec (.setSerial i.val cs) s = .next (t.answered .test (.setSerial i.val cs) k [])
    ((s.slot i).state.takesSerial ≠ true → answers s .wrongState) ∧
    ((s.slot i).state.takesSerial = true → s.serialHeld i cs = true → answers s .duplicate) ∧
    ((s.slot i).state.takesSerial = true → s.serialHeld i cs ≠ true →
      answers (s.putSlot i { s.slot i with serial := some cs }) .done) := by
  have served := serveSetSerial_slot i cs s legal
  refine ⟨fun ht => ?_, fun ht hh => ?_, fun ht hh => ?_⟩
  · rw [if_pos (Bool.eq_false_iff.2 ht)] at served
    exact exec_ready_refused _ .test s .wrongState rfl hr served
  · rw [if_neg (by simp [ht]), if_pos hh] at served
    exact exec_ready_refused _ .test s .duplicate rfl hr served
  · rw [if_neg (by simp [ht]), if_neg hh] at served
    exact exec_ready_now _ .test s _ .done [] rfl hr served rfl

theorem measure_served (i : Slot) (k : MeasureId) (v : Nat) (s : State) (hr : s.Ready .test (.measure i.val k.val v))
    (hv : v ≤ 4294967295) :
    ((s.slot i).state ≠ .running → (s.slot i).state ≠ .complete →
      exec (.measure i.val k.val v) s = .next (s.answered .test (.measure i.val k.val v) .wrongState [])) ∧
    ((s.slot i).state = .running ∨ (s.slot i).state = .complete → exec (.measure i.val k.val v) s =
      .next ((s.putSlot i { s.slot i with measures := tset (s.slot i).measures k (some v) }).answered
        .test (.measure i.val k.val v) .done [])) := by
  have served := serveMeasure_slot i k v s hv
  refine ⟨fun noRun noEnd => ?_, fun h => ?_⟩
  · rw [if_neg (not_or.2 ⟨noRun, noEnd⟩)] at served
    exact exec_ready_refused _ .test s .wrongState rfl hr served
  · rw [if_pos h] at served
    exact exec_ready_now _ .test s _ .done [] rfl hr served rfl

/-- ADVANCE of a slot that has earned its stage's credit: a stage fetch, or the end of the test (R61, R62). -/
theorem advance_served (i : Slot) (s : State) (hr : s.Ready .test (.advance i.val)) {ref : RecipeRef}
    (running : (s.slot i).state = .running) (paid : ¬ (s.slot i).owesCredit = true) (hrec : (s.slot i).recipe = some ref) :
    ((s.slot i).stage + 1 ≠ ref.stages → exec (.advance i.val) s =
      .next ({ s with fetch := .sent (.stage i ref.block ((s.slot i).stage + 1)) }.setLink .test
        { s.testLink with held := some (.serving (.advance i.val)) })) ∧
    ((s.slot i).stage + 1 = ref.stages → exec (.advance i.val) s =
      .next (({ s with rck := { s.rck with watch := tset s.rck.watch i none } }.putSlot i
        { s.slot i with state := .complete, quiet := .normal }).answered .test (.advance i.val) .done
          [6#8, BitVec.ofNat 8 (s.slot i).stage, 0#8])) := by
  have served := serveAdvance_running i s running paid hrec
  refine ⟨fun more => ?_, fun last => ?_⟩
  · rw [if_neg more] at served
    exact exec_ready_fetch _ s _ rfl hr served
  · rw [if_pos last, State.arm_none] at served
    exact exec_ready_now _ .test s _ .done _ rfl hr served rfl

/-- Settles O29: each request by its checks in order. -/
theorem testRequestsOfASlot : Obligations.TestRequestsOfASlot := by
  intro n s refused fetches
  have refuses {c : Instr} {k : RespCode} (hl : requestLink c = some .test) (h : s.Ready .test c)
      (hs : service c s = (s, .refuse k)) : refused c k := exec_ready_refused c .test s k hl h hs
  refine ⟨fun cs hr => ?setSerial, fun m v hr => ?measure, fun id hr => ?start, fun hr => ?advance, fun hr => ?finish⟩
  case setSerial =>
    refine ⟨fun h => refuses rfl hr (serveSetSerial_range n cs s h), ?_⟩
    rintro i rfl hl taken held
    rw [show taken ↔ _ from (SlotState.takesSerial_iff _).symm, show held ↔ _ from (State.serialHeld_iff_entry s i cs).symm]
    exact setSerial_served i cs s hr hl
  case measure =>
    refine ⟨fun h => refuses rfl hr (serveMeasure_range n m v s h), ?_⟩
    rintro i k rfl rfl hv
    exact measure_served i k v s hr hv
  case start =>
    refine ⟨fun h => refuses rfl hr (serveStart_range n id s h), ?_⟩
    rintro i rfl lo hi
    exact ⟨fun h => refuses rfl hr (serveStart_wrongState i id s lo hi h),
      fun ready named => exec_ready_fetch _ s _ rfl hr (serveStart_ready i id s lo hi ready named)⟩
  case advance =>
    refine ⟨fun h => refuses rfl hr (serveAdvance_range n s h), ?_⟩
    rintro i rfl r owes
    rw [show owes ↔ _ from (SlotRecord.owesCredit_iff r).symm]
    exact ⟨fun h => refuses rfl hr (serveAdvance_wrongState i s h),
      fun ref running paid hrec => advance_served i s hr running paid hrec⟩
  case finish =>
    refine ⟨fun h => refuses rfl hr (serveFinish_range n s h), ?_⟩
    rintro i rfl
    exact ⟨fun h => refuses rfl hr (serveFinish_wrongState i s h),
      fun ref h hrec => exec_ready_fetch _ s _ rfl hr (serveFinish_complete i s h hrec)⟩

end Sys2Proof.Machine
end

section
/-! Fetch answers and faults at SSQ: the capture, the grading or the refusal that each makes (R57, R62, R65, R66, R69). -/

namespace Sys2Proof.Machine

/-! ### The answer to each fetch -/

theorem exec_startFetchAnswer {s : State} {i : Slot} {id : Nat} {r : FetchResult} (h : s.fetch = .answered (.start i id) r) :
    exec .startFetchAnswer s = .next (s.endFetch.serveStartAnswer i id r) := by
  change execStartFetchAnswer s = _
  simp only [execStartFetchAnswer, h]

theorem exec_stageFetchAnswer {s : State} {i : Slot} {b : BlockNo} {n : Nat} {r : FetchResult}
    (h : s.fetch = .answered (.stage i b n) r) : exec .stageFetchAnswer s = .next (s.endFetch.serveStageAnswer i n r) := by
  change execStageFetchAnswer s = _
  simp only [execStageFetchAnswer, h]

theorem exec_limitsFetchAnswer {s : State} {i : Slot} {b : BlockNo} {r : FetchResult}
    (h : s.fetch = .answered (.limits i b) r) : exec .limitsFetchAnswer s = .next (s.endFetch.serveLimitsAnswer i r) := by
  change execLimitsFetchAnswer s = _
  simp only [execLimitsFetchAnswer, h]

/-- The byte of the quiet state a captured stage starts in (R56). -/
theorem byteOf_startQuiet (sensitive : Bool) (holds : Nat) :
    byteOf (startQuiet sensitive holds).code = if sensitive = true ∧ 1 ≤ holds then 2#8 else 0#8 := by
  unfold startQuiet
  split <;> rfl

theorem State.serveStartAnswer_ready (s : State) (i : Slot) (id : Nat) (b : BlockNo) (revision stages : Nat) (e : StageEntry)
    (h : (s.slot i).state = .ready) : s.serveStartAnswer i id (.start b revision stages e) =
      (s.capture i ((s.slot i).started ⟨b, id, revision, stages⟩ s.now) 0 e).respond .test 0x19 .done
        [if e.sensitive = true ∧ 1 ≤ s.holdCount i then 2#8 else 0#8] := by
  simp only [State.serveStartAnswer, if_pos h, State.slot_capture, if_true, SlotRecord.captured, byteOf_startQuiet]

theorem State.serveStageAnswer_running (s : State) (i : Slot) (n : Nat) (e : StageEntry) (h : (s.slot i).state = .running) :
    s.serveStageAnswer i n (.stage e) = (s.capture i (s.slot i) n e).respond .test 0x1A .done
      [5#8, byteOf n, if e.sensitive = true ∧ 1 ≤ s.holdCount i then 2#8 else 0#8] := by
  simp only [State.serveStageAnswer, if_pos h, State.slot_capture, if_true, SlotRecord.captured, SlotRecord.advanceBytes,
    byteOf_startQuiet]
  rfl

/-! ### Gradings and the result they answer -/

/-- What FINISH and ABORT answer after a grading (R65, R66). -/
theorem State.gradeResult_gradeSlot (s : State) (i : Slot) (r : SlotRecord) (l : Option Limits) (n : Nat) :
    ((s.gradeSlot i r l n).slot i).gradeResult = gradeBytes (gradeOf (r.evidence l)) := by
  rw [State.slot_gradeSlot, if_pos rfl]
  rfl

theorem State.serveLimitsAnswer_complete (s : State) (i : Slot) (table : Vector (Option LimitsEntry) 8) (credit n : Nat)
    (h : (s.slot i).state = .complete) : s.serveLimitsAnswer i (.limits table credit n) =
      (s.gradeToSpinDown i (s.slot i) (some ⟨table, credit⟩) n).respond .test 0x1C .done
        (gradeBytes (gradeOf ((s.slot i).evidence (some ⟨table, credit⟩)))) := by
  simp only [State.serveLimitsAnswer, if_pos h]
  exact congrArg _ (s.gradeResult_gradeSlot i _ _ n)

/-- Settles O30: each answer, by the state in which it finds its slot. -/
theorem fetchAnswersServeTheirRequests : Obligations.FetchAnswersServeTheirRequests := by
  intro s t
  refine ⟨fun i id => ⟨exec_startFetchAnswer, exec_startFetchAnswer,
      fun b revision stages e h => ⟨fun other => ?_, fun ready => ?_⟩⟩,
    fun i b n => ⟨exec_stageFetchAnswer, fun e h => ⟨fun other => ?_, fun running => ?_⟩⟩,
    fun i b => ⟨exec_limitsFetchAnswer, fun table credit n h => ⟨fun other => ?_, fun complete => ?_⟩⟩⟩
  · exact (exec_startFetchAnswer h).trans (congrArg _ (if_neg other))
  · exact (exec_startFetchAnswer h).trans (congrArg _ (t.serveStartAnswer_ready i id b revision stages e ready))
  · exact (exec_stageFetchAnswer h).trans (congrArg _ (if_neg other))
  · exact (exec_stageFetchAnswer h).trans (congrArg _ (t.serveStageAnswer_running i n e running))
  · exact (exec_limitsFetchAnswer h).trans (congrArg _ (if_neg other))
  · refine ⟨_, _, ?_, (exec_limitsFetchAnswer h).trans (congrArg _ (t.serveLimitsAnswer_complete i table credit n complete))⟩
    rw [State.slot_gradeSlot, if_pos rfl]
    rfl

/-! ### ABORT and overtemperature (R66, R69) -/

theorem SlotState.powered_iff (st : SlotState) : st.powered = true ↔ st = .ready ∨ st = .running ∨ st = .complete := by
  cases st <;> decide

theorem abortKindOf?_out {m : Nat} (h : 2 ≤ m) : abortKindOf? m = none := by
  match m with
  | _ + 2 => rfl

theorem abortKindOf?_in {m : Nat} (h : m < 2) : abortKindOf? m = some (if m = 0 then .testAbort else .driveFail) := by
  match m with
  | 0 => rfl
  | 1 => rfl

theorem serveAbort_range (n m : Nat) (s : State) (h : 24 ≤ n ∨ 2 ≤ m) : serveAbort n m s = (s, .refuse .range) := by
  rcases h with h | h
  · simp only [serveAbort, slotOf?_none h]
  · simp only [serveAbort, abortKindOf?_out h]
    cases slotOf? n <;> rfl

theorem serveAbort_slot (i : Slot) (m : Nat) (k : FaultKind) (s : State) (hk : abortKindOf? m = some k) :
    serveAbort i.val m s =
      let t := s.gradeSlot i (s.faulted i k) none s.pcu.generation
      let u := s.gradeToSpinDown i (s.faulted i k) none s.pcu.generation
      if (s.slot i).state = .loaded then (t.dispatch i, .done (t.slot i).gradeResult)
      else if (s.slot i).state = .ready ∨ (s.slot i).state = .running ∨ (s.slot i).state = .complete then
        (u, .done (u.slot i).gradeResult)
      else (s, .refuse .wrongState) := by
  simp only [serveAbort, slotOf?_val, hk, SlotState.powered_iff]

theorem exec_overtempEvent (i : Slot) (s : State) : exec (.overtempEvent i) s =
    if (s.mailOf i).overtemps = 0 then .next s
    else .next ((s.setMail i { s.mailOf i with overtemps := (s.mailOf i).overtemps - 1 }).serveOvertemp i) := rfl

/-- Settles O31: ABORT by the state of its slot, and an overtemperature event by whether it still finds the test running. -/
theorem faultsGradeTheDrive : Obligations.FaultsGradeTheDrive := by
  intro s graded spunDown
  refine ⟨fun n m hr => ⟨fun h => exec_ready_refused _ .test s .range rfl hr (serveAbort_range n m s h), ?_⟩,
    fun i => ⟨fun h => (exec_overtempEvent i s).trans (if_pos h),
      fun h => (exec_overtempEvent i s).trans (if_neg (Nat.ne_of_gt h))⟩⟩
  · rintro i rfl hm k result
    have served := serveAbort_slot i m k s (abortKindOf?_in hm)
    have left := ((KeepsHeld.refl s).gradeSlot i (s.faulted i k) none s.pcu.generation).dispatch i
    have spun := (KeepsHeld.refl s).gradeToSpinDown i (s.faulted i k) none s.pcu.generation
    dsimp only at served
    split
    · next loaded =>
      rw [if_pos loaded] at served
      exact exec_ready_now _ .test s _ .done _ rfl hr served (left.output .test)
    · next notLoaded =>
      rw [if_neg notLoaded] at served
      split
      · next powered =>
        rw [if_pos powered] at served
        exact exec_ready_now _ .test s _ .done _ rfl hr served (spun.output .test)
      · next other =>
        rw [if_neg other] at served
        exact exec_ready_refused _ .test s .wrongState rfl hr served

end Sys2Proof.Machine
end

section
/-! The quiet orders, the disturbance orders and the credit events at SSQ (R58 to R60, R106, R108, R111). -/

namespace Sys2Proof.Machine

/-! ### ASK, RELEASE and disturbance orders (R59, R60) -/

theorem SlotRecord.askable_iff (r : SlotRecord) : r.askable = true ↔
    (r.state = .running ∧ ∃ c, r.context = some c ∧ c.sensitive = true) ∧
      (∃ c, r.context = some c ∧ c.suspendable = true) ∧ r.quiet = .normal := by
  have suspendable : (r.context.map (·.suspendable)).getD false = true ↔ ∃ c, r.context = some c ∧ c.suspendable = true := by
    cases r.context <;> simp
  rw [SlotRecord.askable, Bool.and_eq_true, Bool.and_eq_true, SlotRecord.runsSensitive_iff, suspendable, beq_iff_eq, and_assoc]

theorem SlotRecord.exposed_iff (r : SlotRecord) : r.exposed = true ↔
    (r.state = .running ∧ ∃ c, r.context = some c ∧ c.sensitive = true) ∧ r.quiet ≠ .quiet := by
  rw [SlotRecord.exposed, Bool.and_eq_true, SlotRecord.runsSensitive_iff, bne_iff_ne]

/-- DISTURBED is marked on one stage alone. -/
theorem getElem?_markDisturbed (marks : List Marks) (k n : Nat) (m : Marks) (h : marks[n]? = some m) :
    (markDisturbed marks k)[n]? = some (if n = k then { m with disturbed := true } else m) := by
  rw [markDisturbed, List.getElem?_modify, h]
  by_cases e : n = k
  · simp [e]
  · simp [e, Ne.symm e]

theorem exec_askOrder (i : Slot) (s : State) : exec (.askOrder i) s =
    if (s.mailOf i).asks = 0 then .next s
    else .next ((s.setMail i { s.mailOf i with asks := (s.mailOf i).asks - 1 }).applyAsk i) := rfl

theorem exec_releaseQuietOrder (i : Slot) (s : State) : exec (.releaseQuietOrder i) s =
    if (s.mailOf i).releases = 0 then .next s
    else .next ((s.setMail i { s.mailOf i with releases := (s.mailOf i).releases - 1 }).applyRelease i) := rfl

theorem exec_disturbanceOrder (i : Slot) (s : State) : exec (.disturbanceOrder i) s =
    if (s.mailOf i).disturbances = 0 then .next s
    else .next ((s.setMail i { s.mailOf i with disturbances := (s.mailOf i).disturbances - 1 }).applyDisturbance i) := rfl

/-- Settles O33: each order on its way, by whether it still applies to its slot. -/
theorem quietOrdersAtTheSlot : Obligations.QuietOrdersAtTheSlot := by
  intro i s m r sensitive suspendable
  refine ⟨fun h => (exec_askOrder i s).trans (if_pos h), fun h => (exec_releaseQuietOrder i s).trans (if_pos h),
    fun h => (exec_disturbanceOrder i s).trans (if_pos h), fun h => ?ask, fun h => ?release, fun h => ?disturb⟩
  case ask =>
    intro u applies
    have served : exec (.askOrder i) s = .next (u.applyAsk i) := (exec_askOrder i s).trans (if_neg (Nat.ne_of_gt h))
    have cond : (u.slot i).askable = true ∧ 1 ≤ u.holdCount i ↔ applies := by
      rw [SlotRecord.askable_iff]
      exact ⟨fun ⟨⟨runs, suspends, normal⟩, held⟩ => ⟨runs, suspends, normal, held⟩,
        fun ⟨runs, suspends, normal, held⟩ => ⟨⟨runs, suspends, normal⟩, held⟩⟩
    exact ⟨fun no => served.trans (congrArg _ (if_neg (cond.not.2 no))),
      fun yes => served.trans (congrArg _ (if_pos (cond.2 yes)))⟩
  case release =>
    intro u applies
    have served : exec (.releaseQuietOrder i) s = .next (u.applyRelease i) :=
      (exec_releaseQuietOrder i s).trans (if_neg (Nat.ne_of_gt h))
    have cond : (u.slot i).runsSensitive = true ∧ (u.slot i).quiet ≠ .normal ∧ u.holdCount i = 0 ↔ applies := by
      rw [SlotRecord.runsSensitive_iff]; rfl
    exact ⟨fun no => served.trans (congrArg _ (if_neg (cond.not.2 no))),
      fun yes => served.trans (congrArg _ (if_pos (cond.2 yes)))⟩
  case disturb =>
    intro u applies
    have served : exec (.disturbanceOrder i) s = .next (u.applyDisturbance i) :=
      (exec_disturbanceOrder i s).trans (if_neg (Nat.ne_of_gt h))
    have cond : (u.slot i).exposed = true ↔ applies := SlotRecord.exposed_iff r
    exact ⟨fun no => served.trans (congrArg _ (if_neg (cond.not.2 no))), fun yes =>
      ⟨markDisturbed r.marks r.stage, served.trans (congrArg _ (if_pos (cond.2 yes))), List.length_modify ..,
        fun n k => getElem?_markDisturbed _ _ n k⟩⟩

/-! ### Credit events (R58, R106, R108) -/

theorem Profile.factor_below (p : Profile) {tf : Int} (h : tf < p.base) : p.factor tf = 0 := if_pos h

/-- In the band `k`, or above the last one, the factor is that of the band (R106). -/
theorem Profile.factor_band (p : Profile) {tf : Int} (k : Fin 16) (width : 1 ≤ p.width) (lo : p.base + k.val * p.width ≤ tf)
    (hi : tf < p.base + (k.val + 1) * p.width ∨ k = 15) : p.factor tf = tget p.factors k := by
  have positive : (0 : Int) < p.width := by omega
  have least : (k.val : Int) ≤ (tf - p.base) / p.width := (Int.le_ediv_iff_mul_le positive).2 (by omega)
  have index : min 15 ((tf - p.base) / p.width).toNat = k.val := by
    rcases hi with hi | rfl
    · have most : (tf - p.base) / p.width < k.val + 1 := (Int.ediv_lt_iff_lt_mul positive).2 (by omega)
      omega
    · exact Nat.min_eq_left (by omega)
  have above : ¬ tf < p.base := by
    have : 0 ≤ (k.val : Int) * p.width := Int.mul_nonneg (by omega) (by omega)
    omega
  rw [Profile.factor, if_neg above]
  exact congrArg (tget p.factors) (Fin.ext index)

theorem State.addCredit_earns (s : State) (i : Slot) (factor : Nat) {target : Nat}
    (h : (s.slot i).creditTarget? = some target) : s.addCredit i factor =
      if target ≤ (s.slot i).credit + factor then
        (s.putSlot i ((s.slot i).credited target factor)).post .stageDue i.val
      else s.putSlot i ((s.slot i).credited target factor) := by
  simp only [State.addCredit, h]

theorem State.serveCredit_measured (s : State) (i : Slot) {tf : Int} (h : (s.temp i).filtered = some tf)
    (fresh : (s.temp i).stale = false) : s.serveCredit i = s.addCredit i (s.creditFactor i tf) := by
  simp only [State.serveCredit, h, fresh]

/-- A slot's part of a tick does nothing without a temperature to judge by, or where the slot earns nothing (R58, R108). -/
theorem State.serveCredit_idle (s : State) (i : Slot) (h : ∀ tf target, (s.temp i).filtered = some tf →
    (s.temp i).stale = false → (s.slot i).creditTarget? ≠ some target) : s.serveCredit i = s := by
  unfold State.serveCredit
  split
  · next tf hf hs =>
    have none : (s.slot i).creditTarget? = none := Option.eq_none_iff_forall_ne_some.2 fun target => h tf target hf hs
    simp only [State.addCredit, none]
  · rfl

theorem exec_creditEvent (i : Slot) (s : State) : exec (.creditEvent i) s =
    if (s.mailOf i).credits = 0 then .next s
    else .next ((s.setMail i { s.mailOf i with credits := (s.mailOf i).credits - 1 }).serveCredit i) := rfl

theorem exec_captureReport (i : Slot) (s : State) : exec (.captureReport i) s =
    if (s.mailOf i).captures = 0 then .next s
    else .next ((s.setMail i { s.mailOf i with captures := (s.mailOf i).captures - 1 }).setTemp i { s.temp i with hot := 0 }) :=
  rfl

/-- Settles O43: the credit target of a slot that earns, and the factor of the band its temperature lies in. -/
theorem creditEventsAddTheFactor : Obligations.CreditEventsAddTheFactor := by
  intro i s m r
  refine ⟨⟨fun h => (exec_captureReport i s).trans (if_pos h),
      fun h => (exec_captureReport i s).trans (if_neg (Nat.ne_of_gt h))⟩,
    fun h => (exec_creditEvent i s).trans (if_pos h), fun h => ?_⟩
  intro u earns
  have served : exec (.creditEvent i) s = .next (u.serveCredit i) := (exec_creditEvent i s).trans (if_neg (Nat.ne_of_gt h))
  refine ⟨fun no => ?_, fun c tf target ⟨running, active, hc, ht, mode, hf, hs⟩ width => ?_⟩
  · refine served.trans (congrArg _ (u.serveCredit_idle i fun tf target hf hs hct => ?_))
    obtain ⟨running, active, c, hc, mode, ht⟩ := (SlotRecord.creditTarget?_eq_some _ _).1 hct
    exact no ⟨c, tf, target, running, active, hc, ht, mode, hf, hs⟩
  · intro p
    have named : u.creditFactor i tf = p.factor tf := by
      simp only [State.creditFactor, show (u.slot i).context = some c from hc]; rfl
    have earned : (u.slot i).creditTarget? = some target :=
      (SlotRecord.creditTarget?_eq_some _ _).2 ⟨running, active, c, hc, mode, ht⟩
    refine ⟨p.factor tf, p.factor_below, fun k lo hi => p.factor_band k width lo hi, served.trans (congrArg _ ?_)⟩
    rw [u.serveCredit_measured i hf hs, named]
    exact u.addCredit_earns i _ earned

end Sys2Proof.Machine
end

section
/-! The laws of TAU (R101, R103, R105, R107, R110, R112): what a reading makes of a temperature context, and what a setting makes
of TAU. -/

namespace Sys2Proof.Machine

/-! ### The filter (R103, R105) -/

theorem clampTemp_legal (z : Int) : legalTemp (clampTemp z) := by
  simp only [clampTemp, legalTemp, Config.minTemp, Config.maxTemp]
  omega

/-- A rise is rounded up to a whole count. -/
theorem filterStep_rise (w : Nat) {d : Int} (h : 0 ≤ d) : d * w ≤ 8 * filterStep w d ∧ 8 * filterStep w d < d * w + 8 := by
  rw [filterStep, if_pos h]
  omega

/-- A fall is rounded down to a whole count. -/
theorem filterStep_fall (w : Nat) {d : Int} (h : d < 0) : 8 * filterStep w d ≤ d * w ∧ d * w - 8 < 8 * filterStep w d := by
  rw [filterStep, if_neg (Int.not_le.2 h), Int.neg_mul]
  omega

/-- With a weight of at most 8 the filtered temperature moves towards the reading and not past it, so it stays in the range. -/
theorem filterTemp_legal {w : Nat} (hw : w ≤ 8) {old : Option Int} (h : ∀ z ∈ old, legalTemp z) {tc : Int}
    (hc : legalTemp tc) : legalTemp (filterTemp w old tc) := by
  cases old with
  | none => exact hc
  | some z =>
    obtain ⟨lo, hi⟩ := h z rfl
    obtain ⟨clo, chi⟩ := hc
    have weight : (w : Int) ≤ 8 := by exact_mod_cast hw
    change legalTemp (z + filterStep w (tc - z))
    rcases le_or_gt 0 (tc - z) with rise | fall
    · have up := filterStep_rise w rise
      have nonneg : 0 ≤ (tc - z) * w := Int.mul_nonneg rise (Int.natCast_nonneg w)
      have most : (tc - z) * w ≤ (tc - z) * 8 := Int.mul_le_mul_of_nonneg_left weight rise
      exact ⟨by omega, by omega⟩
    · have down := filterStep_fall w fall
      have nonpos : (tc - z) * w ≤ 0 := Int.mul_nonpos_of_nonpos_of_nonneg fall.le (Int.natCast_nonneg w)
      have least : (tc - z) * 8 ≤ (tc - z) * w := Int.mul_le_mul_of_nonpos_left fall.le weight
      exact ⟨by omega, by omega⟩

/-! ### Temperature contexts (R101, R110) -/

/-- What TAU keeps of one temperature context. -/
structure TempContext.Lawful (c : TempContext) : Prop where
  filtered : ∀ z ∈ c.filtered, legalTemp z
  failures : c.failures ≤ 3
  hot : c.hot ≤ 2
  stale : c.stale = true → c.filtered = none ∧ c.failures = 3

/-- The context an accepted reading leaves. -/
theorem TempContext.Lawful.measured {z : Int} (legal : legalTemp z) {n : Nat} (hn : n ≤ 2) :
    TempContext.Lawful ⟨some z, 0, n, false⟩ :=
  ⟨fun _ e => Option.some.inj e ▸ legal, Nat.zero_le 3, hn, nofun⟩

/-! ### Readings of arguments (R104, R107) -/

theorem intIn?_some {lo hi z y : Int} (h : intIn? lo hi z = some y) : y = z ∧ lo ≤ z ∧ z ≤ hi := by
  obtain ⟨range, e⟩ := Option.ite_none_right_eq_some.1 h
  exact ⟨(Option.some.inj e).symm, range⟩

/-- The entries of a table are those at its indices. -/
theorem forall_mem_toList {α : Type} {n : Nat} (v : Vector α n) (P : α → Prop) :
    (∀ x ∈ v.toList, P x) ↔ ∀ k, P (tget v k) := by
  simp only [Vector.mem_toList_iff, Vector.mem_iff_getElem]
  constructor
  · exact fun h k => h _ ⟨k, k.isLt, rfl⟩
  · rintro h x ⟨k, hk, rfl⟩
    exact h ⟨k, hk⟩

/-- Sixteen factors are read as a table exactly when each is at most 255. -/
theorem factorsOf?_eq_some (fs : List Nat) (v : Vector Nat 16) :
    factorsOf? fs = some v ↔ v.toList = fs ∧ ∀ k, tget v k ≤ 255 := by
  have legal : (fs.all fun f => decide (f ≤ 255)) = true ↔ ∀ f ∈ fs, f ≤ 255 := by
    simp only [List.all_eq_true, decide_eq_true_eq]
  rw [← forall_mem_toList v (· ≤ 255), factorsOf?]
  constructor
  · intro h
    split at h
    · split at h
      · next each => cases h; exact ⟨rfl, legal.1 each⟩
      · cases h
    · cases h
  · rintro ⟨rfl, each⟩
    rw [dif_pos (show v.toList.toArray.size = 16 from v.size_toArray), if_pos (legal.2 each)]
    rfl

namespace ThermalLaws

variable {q : Tau}

theorem context (h : ThermalLaws q) (i : Slot) : (tget q.contexts i).Lawful :=
  ⟨h.filtered i, h.failures i, h.hot i, h.stale i⟩

/-- One context written. -/
theorem setContext (h : ThermalLaws q) (i : Slot) {c : TempContext} (hc : c.Lawful) :
    ThermalLaws { q with contexts := tset q.contexts i c } := by
  have each (j : Slot) : (tget (tset q.contexts i c) j).Lawful := by
    rw [tget_tset]
    split
    · exact hc
    · exact h.context j
  exact { h with
    filtered := fun j => (each j).filtered, failures := fun j => (each j).failures, hot := fun j => (each j).hot,
    stale := fun j => (each j).stale }

theorem setTemp {s : State} (h : ThermalLaws s.tau) (i : Slot) {c : TempContext} (hc : c.Lawful) :
    ThermalLaws (s.setTemp i c).tau := h.setContext i hc

/-- A capture clears the hot run (R111). -/
theorem clearHot {s : State} (h : ThermalLaws s.tau) (i : Slot) : ThermalLaws (s.setTemp i { s.temp i with hot := 0 }).tau :=
  h.setTemp i { h.context i with hot := Nat.zero_le 2 }

theorem takeCaptures {s : State} (h : ThermalLaws s.tau) (i : Slot) : ThermalLaws (s.takeCaptures i).tau := by
  unfold State.takeCaptures
  split
  · exact h
  · exact h.clearHot i

/-- A failed reading: the third in a row makes the slot STALE, and a STALE slot stays at three (R101). -/
theorem readingFails {s : State} (h : ThermalLaws s.tau) (i : Slot) : ThermalLaws (s.readingFails i).tau := by
  have c : (s.temp i).Lawful := h.context i
  unfold State.readingFails
  dsimp only
  split
  · exact h.setTemp i ⟨nofun, Nat.le_refl 3, Nat.zero_le 2, fun _ => ⟨rfl, rfl⟩⟩
  · refine h.setTemp i ⟨c.filtered, Nat.min_le_left .., c.hot, fun stale => ?_⟩
    obtain ⟨absent, three⟩ := c.stale stale
    exact ⟨absent, by dsimp only; omega⟩

/-- An accepted reading is filtered within the range, and its hot run stays below the three at which it is reported (R105,
R110). -/
theorem readingAccepted {s : State} (h : ThermalLaws s.tau) (i : Slot) (raw : Int) :
    ThermalLaws (s.readingAccepted i raw).tau := by
  have legal : legalTemp (filterTemp s.tau.weight (s.temp i).filtered (clampTemp (raw + tget s.tau.offsets i))) :=
    filterTemp_legal h.weight.2 (h.filtered i) (clampTemp_legal _)
  unfold State.readingAccepted
  dsimp only
  split
  · exact h.setTemp i (.measured legal (Nat.zero_le 2))
  · next run => exact h.setTemp i (.measured legal (by omega))

theorem serveReading {s : State} (h : ThermalLaws s.tau) (i : Slot) (reply : Option SensorReply) :
    ThermalLaws (s.serveReading i reply).tau := by
  unfold State.serveReading
  repeat' split
  · exact h.setTemp i ⟨nofun, Nat.zero_le 3, Nat.zero_le 2, nofun⟩
  · exact h.readingAccepted i _
  · exact h.readingFails i

/-- The time and the place of a scan are no matter of the laws (R98). -/
theorem setScan {s : State} (h : ThermalLaws s.tau) (n : Nat) (next : Option Slot) :
    ThermalLaws ({ s with tau := { s.tau with scanStartAt := n, scanNext := next } } : State).tau := { h with }

/-! ### Settings (R104, R107, R112) -/

theorem serveSetScan {s : State} (h : ThermalLaws s.tau) (p w : Nat) : ThermalLaws (serveSetScan p w s).1.tau := by
  unfold Machine.serveSetScan
  split
  · next hp hw =>
    obtain ⟨rfl, legalPeriod⟩ := natIn?_some hp
    obtain ⟨rfl, legalWeight⟩ := natIn?_some hw
    exact { h with weight := legalWeight, period := legalPeriod }
  · exact h

theorem serveSetOffset {s : State} (h : ThermalLaws s.tau) (n : Nat) (z : Int) : ThermalLaws (serveSetOffset n z s).1.tau := by
  unfold Machine.serveSetOffset
  split
  · next i o _ ho =>
    refine { h with offsets := fun j => ?_ }
    dsimp only
    rw [tget_tset]
    split
    · obtain ⟨rfl, legal⟩ := intIn?_some ho
      exact legal
    · exact h.offsets j
  · exact h

/-- A profile is set within its ranges, each factor at most 255 (R107). -/
theorem serveSetProfile {s : State} (h : ThermalLaws s.tau) (n : Nat) (b : Int) (w : Nat) (fs : List Nat) :
    ThermalLaws (serveSetProfile n b w fs s).1.tau := by
  unfold Machine.serveSetProfile
  split
  · next p b' w' v _ _ hw hv =>
    split
    · exact h
    · obtain ⟨rfl, legalWidth⟩ := natIn?_some hw
      obtain ⟨-, legalFactors⟩ := (factorsOf?_eq_some fs v).1 hv
      refine { h with factors := fun j k => ?_, widths := fun j => ?_ }
      · dsimp only
        rw [tget_tset]
        split
        · exact legalFactors k
        · exact h.factors j k
      · dsimp only
        rw [tget_tset]
        split
        · exact legalWidth
        · exact h.widths j
  · exact h

end ThermalLaws

end Sys2Proof.Machine
end

section
/-! The laws of TAU and PCU together (R101, R105, R107, R110, R112, R141, R145), kept by every step. The blocks that enabled
channels name stay WRITTEN: only an ERASE and a CLEAR take a block out of WRITTEN, and PCU then disables the channels that name
it. -/

namespace Sys2Proof.Machine

/-! ### Channels and blocks (R138 to R145) -/

theorem Pcu.mem_list (q : Pcu) (c : Channel) : c ∈ q.list ↔ ∃ x, tget q.channels x = c := by
  simp only [Pcu.list, List.mem_cons, List.not_mem_nil, or_false]
  constructor
  · rintro (rfl | rfl | rfl | rfl) <;> exact ⟨_, rfl⟩
  · rintro ⟨x, rfl⟩
    fin_cases x <;> simp

/-- An enabled channel that validates is in its range and names a WRITTEN block (R141). -/
theorem Channel.valid_sound {cs : List Channel} {blocks : Vector RecipeBlock 32} {c : Channel} (h : c.valid cs blocks = true) :
    c.inRange = true ∧ (tget blocks c.block).state = .written := by
  unfold Channel.valid at h
  split at h
  · next r hr =>
    obtain ⟨written, -⟩ := Option.ite_none_right_eq_some.1 hr
    simp only [Bool.and_eq_true] at h
    obtain ⟨⟨-, range⟩, -⟩ := h
    exact ⟨range, written⟩
  · cases h

namespace PatchLaws

variable {s t : State}

/-- PCU unchanged, and every WRITTEN block still WRITTEN. -/
theorem of_written (h : PatchLaws s) (e : t.pcu = s.pcu)
    (w : ∀ b, (s.block b).state = .written → (t.block b).state = .written) : PatchLaws t := by
  refine ⟨?_, e ▸ h.generation⟩
  rw [e]
  intro active c hc enabled
  obtain ⟨range, written⟩ := h.active active c hc enabled
  exact ⟨range, w _ written⟩

/-- PCU out of ACTIVE has no channels to keep. -/
theorem of_inactive (off : s.pcu.unit ≠ .active) (g : s.pcu.generation ≤ 65535) : PatchLaws s :=
  ⟨fun active => absurd active off, g⟩

/-- A block that leaves WRITTEN takes with it the channels that name it (R145). -/
theorem invalidate (h : PatchLaws s) (b : BlockNo) : PatchLaws (s.invalidate b) := by
  have others (c : BlockNo) (hc : c ≠ b) (k : RecipeBlock) : (s.setBlock b k).block c = s.block c := by
    rw [State.block_setBlock, if_neg hc]
  unfold State.invalidate
  dsimp only
  split
  · by_cases active : s.pcu.unit = .active
    · rw [State.setBlock_pcu, Pcu.blockLeft, if_pos active]
      refine ⟨fun _ c hc enabled => ?_, h.generation⟩
      obtain ⟨x, rfl⟩ := (Pcu.mem_list _ c).1 hc
      rw [tget_tof] at enabled ⊢
      split at enabled
      · cases enabled
      · next other =>
        rw [if_neg other]
        obtain ⟨range, written⟩ := h.active active _ ((Pcu.mem_list _ _).2 ⟨x, rfl⟩) enabled
        exact ⟨range, (congrArg RecipeBlock.state (others _ other _)).trans written⟩
    · rw [State.setBlock_pcu, Pcu.blockLeft, if_neg active]
      exact of_inactive active h.generation
  · next left =>
    refine h.of_written rfl fun c written => ?_
    rw [others c (fun e => left (e ▸ written))]
    exact written

end PatchLaws

/-! ### What RST's requests leave alone -/

theorem storeRequest_blocks (serve : State → State × Reply) (s : State) :
    (storeRequest serve s).1.rst.blocks = (serve s).1.rst.blocks := by
  rcases storeRequest_fst serve s with e | e <;> rw [e]
  rfl

@[simp] theorem serveStageHeader_blocks (s : State) (a b : Nat) (cs : List Byte) (c : Nat) :
    (serveStageHeader a b cs c s).1.rst.blocks = s.rst.blocks := by unfold serveStageHeader; split <;> rfl

@[simp] theorem serveStageStep_blocks (s : State) (a b c d : Nat) (e : OptArg) (f g : Nat) (h k : OptArg) :
    (serveStageStep a b c d e f g h k s).1.rst.blocks = s.rst.blocks := by unfold serveStageStep; split <;> rfl

@[simp] theorem serveStageLimits_blocks (s : State) (a b c d e : Nat) :
    (serveStageLimits a b c d e s).1.rst.blocks = s.rst.blocks := by unfold serveStageLimits; split <;> rfl

@[simp] theorem serveLock_blocks (s : State) (n : Nat) : (serveLock n s).1.rst.blocks = s.rst.blocks := by
  unfold serveLock
  repeat' split
  all_goals rfl

@[simp] theorem serveStoreClear_blocks (s : State) : (serveStoreClear s).1.rst.blocks = s.rst.blocks := by
  unfold serveStoreClear
  repeat' split
  all_goals rfl

@[simp] theorem serveLockOverride_blocks (s : State) : (serveLockOverride s).1.rst.blocks = s.rst.blocks := by
  unfold serveLockOverride; split <;> rfl

@[simp] theorem serveSuspend_blocks (s : State) : (serveSuspend s).1.rst.blocks = s.rst.blocks := by
  unfold serveSuspend
  repeat' split
  all_goals rfl

@[simp] theorem serveResume_blocks (s : State) : (serveResume s).1.rst.blocks = s.rst.blocks := by
  unfold serveResume
  repeat' split
  all_goals rfl

@[simp] theorem serveClearStoreStatus_blocks (s : State) : (serveClearStoreStatus s).1.rst.blocks = s.rst.blocks := rfl

@[simp] theorem serveSetStoreMode_blocks (s : State) (n : Nat) : (serveSetStoreMode n s).1.rst.blocks = s.rst.blocks := by
  unfold serveSetStoreMode
  repeat' split
  all_goals rfl

@[simp] theorem serveSetFetchPriority_blocks (s : State) (n : Nat) :
    (serveSetFetchPriority n s).1.rst.blocks = s.rst.blocks := by unfold serveSetFetchPriority; split <;> rfl

/-! ### What the receiver leaves alone -/

@[simp] theorem State.refuseTaken_blocks (s : State) (l : Link) (n : Nat) (k : RespCode) :
    (s.refuseTaken l n k).rst.blocks = s.rst.blocks := by
  unfold State.refuseTaken; split <;> simp [State.clearOverride]

@[simp] theorem State.receive_blocks (s : State) (l : Link) (x : Byte) : (s.receive l x).rst.blocks = s.rst.blocks := by
  have taken (t : State) (n : Nat) (p : List Byte) : (t.takeFrame l n p).rst.blocks = t.rst.blocks := by
    unfold State.takeFrame
    repeat' split
    all_goals simp
  have complete (t : State) (n : Nat) (p : List Byte) : (t.completeFrame l n p).rst.blocks = t.rst.blocks := by
    unfold State.completeFrame
    dsimp only
    repeat' split
    all_goals simp [taken]
  unfold State.receive
  repeat' split
  all_goals simp [complete]

/-- What TAU and PCU keep. -/
structure ThermalPatchLaws (s : State) : Prop where
  thermal : ThermalLaws s.tau
  patches : PatchLaws s

namespace ThermalPatchLaws

variable {s t : State}

/-- What TAU is left with keeps its laws, and PCU and the recipe blocks are left as they were. -/
theorem of_thermal (h : ThermalPatchLaws s) (ht : ThermalLaws t.tau) (e : t.pcu = s.pcu ∧ t.rst.blocks = s.rst.blocks) :
    ThermalPatchLaws t := by
  obtain ⟨hp, hb⟩ := e
  refine ⟨ht, h.patches.of_written hp fun b written => ?_⟩
  rw [State.block, hb]
  exact written

/-- The laws speak of TAU, PCU and the recipe blocks alone. -/
theorem of_frame (h : ThermalPatchLaws s) (e : t.tau = s.tau ∧ t.pcu = s.pcu ∧ t.rst.blocks = s.rst.blocks) :
    ThermalPatchLaws t := by
  obtain ⟨ht, rest⟩ := e
  exact h.of_thermal (ht ▸ h.thermal) rest

theorem post (h : ThermalPatchLaws s) (k : NoticeKind) (n : Nat) : ThermalPatchLaws (s.post k n) := h.of_frame ⟨rfl, rfl, rfl⟩

theorem respond (h : ThermalPatchLaws s) (l : Link) (n : Nat) (k : RespCode) (p : List Byte) :
    ThermalPatchLaws (s.respond l n k p) := h.of_frame (by simp)

theorem setMail (h : ThermalPatchLaws s) (i : Slot) (m : Mail) : ThermalPatchLaws (s.setMail i m) :=
  h.of_frame ⟨rfl, rfl, rfl⟩

theorem endFetch (h : ThermalPatchLaws s) : ThermalPatchLaws s.endFetch := h.of_frame ⟨rfl, rfl, rfl⟩

theorem dispatch (h : ThermalPatchLaws s) (i : Slot) : ThermalPatchLaws (s.dispatch i) := h.of_frame (by simp)

theorem freeAccess (h : ThermalPatchLaws s) (r : Fin 2) : ThermalPatchLaws (s.freeAccess r) := h.of_frame (by simp)

theorem clearOverride (h : ThermalPatchLaws s) : ThermalPatchLaws s.clearOverride := h.of_frame ⟨rfl, rfl, rfl⟩

/-! ### Blocks -/

/-- A block written that is not taken out of WRITTEN. -/
theorem setBlock (h : ThermalPatchLaws s) (b : BlockNo) {k : RecipeBlock}
    (hk : (s.block b).state = .written → k.state = .written) : ThermalPatchLaws (s.setBlock b k) := by
  refine ⟨h.thermal, h.patches.of_written rfl fun c written => ?_⟩
  rw [State.block_setBlock]
  split
  · next e => exact hk (e ▸ written)
  · exact written

theorem releaseRef (h : ThermalPatchLaws s) (b : BlockNo) : ThermalPatchLaws (s.releaseRef b) := h.setBlock b id

theorem releaseRefOf (h : ThermalPatchLaws s) (r : SlotRecord) : ThermalPatchLaws (s.releaseRefOf r) := by
  unfold State.releaseRefOf
  split
  · exact h.releaseRef _
  · exact h

theorem answerFetch (h : ThermalPatchLaws s) (f : Fetch) : ThermalPatchLaws (s.answerFetch f) := by
  have counted : ThermalPatchLaws (s.countRef (s.fetchResult f)) := by
    unfold State.countRef
    split
    · exact h.setBlock _ id
    · exact h
  exact counted.of_frame ⟨rfl, rfl, rfl⟩

theorem answerWaiting (h : ThermalPatchLaws s) : ThermalPatchLaws s.answerWaiting := by
  unfold State.answerWaiting
  split
  · exact h.answerFetch _
  · exact h

theorem fetchReaches (h : ThermalPatchLaws s) (f : Fetch) : ThermalPatchLaws (s.fetchReaches f) := by
  unfold State.fetchReaches
  repeat' split
  · exact h.answerFetch f
  · exact h.of_frame ⟨rfl, rfl, rfl⟩
  · exact h.of_frame ⟨rfl, rfl, rfl⟩

/-! ### The ends of store operations (R122 to R125, R127, R130) -/

theorem endRunning (h : ThermalPatchLaws s) (o : Running) : ThermalPatchLaws (s.endRunning o) := by
  have gone : ThermalPatchLaws (s.setRunning none) := h.of_frame ⟨rfl, rfl, rfl⟩
  unfold State.endRunning
  dsimp only
  split
  · exact gone.answerWaiting
  · exact gone

/-- An operation ends, with its notice. -/
theorem ends (h : ThermalPatchLaws s) (o : Running) (k : NoticeKind) (n : Nat) :
    ThermalPatchLaws ((s.endRunning o).post k n) := (h.endRunning o).post k n

/-- An operation ends that clears the lock override flag. -/
theorem endsUnforced (h : ThermalPatchLaws s) (o : Running) (k : NoticeKind) (n : Nat) :
    ThermalPatchLaws ((s.clearOverride.endRunning o).post k n) := h.clearOverride.ends o k n

theorem recordError (h : ThermalPatchLaws s) (k : StoreErrorKind) (b : BlockNo) : ThermalPatchLaws (s.recordError k b) :=
  h.of_frame ⟨rfl, rfl, rfl⟩

theorem programEnds (h : ThermalPatchLaws s) (o : Running) (b : BlockNo) (r : Recipe) (q : Bool) :
    ThermalPatchLaws (s.programEnds o b r q) := by
  unfold State.programEnds
  dsimp only
  split
  · exact (h.setBlock b fun _ => rfl).endsUnforced o _ _
  · exact (h.recordError _ b).endsUnforced o _ _

theorem eraseEnds (h : ThermalPatchLaws s) (o : Running) (b : BlockNo) (q : Bool) (hb : (s.block b).state ≠ .written) :
    ThermalPatchLaws (s.eraseEnds o b q) := by
  unfold State.eraseEnds
  dsimp only
  split
  · exact (h.setBlock b (absurd · hb)).endsUnforced o _ _
  · exact (h.recordError _ b).endsUnforced o _ _

theorem blankCheckEnds (h : ThermalPatchLaws s) (o : Running) (b : BlockNo) (p : BlockState) (q : Bool)
    (hb : (s.block b).state ≠ .written) : ThermalPatchLaws (s.blankCheckEnds o b p q) := by
  unfold State.blankCheckEnds
  dsimp only
  split
  · exact (h.setBlock b (absurd · hb)).ends o _ _
  · exact ((h.setBlock b (absurd · hb)).recordError _ b).ends o _ _

theorem lockEnds (h : ThermalPatchLaws s) (o : Running) (b : BlockNo) : ThermalPatchLaws (s.lockEnds o b) :=
  (h.setBlock (k := { s.block b with locked := true }) b id).endsUnforced o _ _

theorem clearBlockEnds (h : ThermalPatchLaws s) (o : Running) (b : BlockNo) (p q : Bool) (hb : (s.block b).state ≠ .written) :
    ThermalPatchLaws (s.clearBlockEnds o b p q) := by
  have erased : ThermalPatchLaws
      (if q then s.setBlock b { s.block b with state := .blank } else s.recordError .eraseFailed b) := by
    split
    · exact h.setBlock b (absurd · hb)
    · exact h.recordError _ b
  unfold State.clearBlockEnds
  dsimp only
  split
  · exact erased.ends o _ _
  · exact erased.of_frame ⟨rfl, rfl, rfl⟩

theorem serveStop (h : ThermalPatchLaws s) : ThermalPatchLaws (serveStop s).1 := by
  have stopped : ThermalPatchLaws s.stopRunning := by
    unfold State.stopRunning
    split
    · exact h
    · exact h.ends _ _ _
  have both : ThermalPatchLaws s.stopRunning.stopSuspended := by
    unfold State.stopSuspended
    split
    · exact stopped
    · exact stopped.of_frame ⟨rfl, rfl, rfl⟩
  unfold Machine.serveStop
  split
  · exact h
  · exact both.clearOverride

theorem suspendOrGoOn (h : ThermalPatchLaws s) (o : Running) : ThermalPatchLaws (s.suspendOrGoOn o) := by
  unfold State.suspendOrGoOn
  split <;> exact h.of_frame ⟨rfl, rfl, rfl⟩

/-! ### The beginnings of store operations (R120 to R125) -/

theorem invalidate (h : ThermalPatchLaws s) (b : BlockNo) : ThermalPatchLaws (s.invalidate b) :=
  ⟨by simpa using h.thermal, h.patches.invalidate b⟩

theorem begins (h : ThermalPatchLaws s) (b : BlockNo) (o : Option Running) :
    ThermalPatchLaws ((s.invalidate b).setRunning o) := (h.invalidate b).of_frame ⟨rfl, rfl, rfl⟩

theorem serveProgram (h : ThermalPatchLaws s) (n : Nat) : ThermalPatchLaws (serveProgram n s).1 := by
  unfold Machine.serveProgram
  repeat' split
  · exact h
  · exact h
  · exact h
  · exact h
  · exact h
  · exact h
  · exact h.begins _ _

theorem serveErase (h : ThermalPatchLaws s) (n : Nat) : ThermalPatchLaws (serveErase n s).1 := by
  unfold Machine.serveErase
  repeat' split
  · exact h
  · exact h
  · exact h
  · exact h
  · exact h
  · exact h.begins _ _

theorem serveBlankCheck (h : ThermalPatchLaws s) (n : Nat) : ThermalPatchLaws (serveBlankCheck n s).1 := by
  unfold Machine.serveBlankCheck
  repeat' split
  · exact h
  · exact h
  · exact h
  · exact h
  · exact h.begins _ _

/-! ### SSQ and QAC (R57, R67, R70, R71): a reference given back leaves its block's state -/

theorem clearSlot (h : ThermalPatchLaws s) (i : Slot) : ThermalPatchLaws (s.clearSlot i) :=
  (h.releaseRefOf (s.slot i)).of_frame (by simp [State.clearSlot, State.setNote])

theorem gradeSlot (h : ThermalPatchLaws s) (i : Slot) (r : SlotRecord) (l : Option Limits) (n : Nat) :
    ThermalPatchLaws (s.gradeSlot i r l n) := (h.releaseRefOf r).of_frame (by simp [State.gradeSlot, State.setNote])

theorem gradeToSpinDown (h : ThermalPatchLaws s) (i : Slot) (r : SlotRecord) (l : Option Limits) (n : Nat) :
    ThermalPatchLaws (s.gradeToSpinDown i r l n) := (h.gradeSlot i _ l n).of_frame ⟨rfl, rfl, rfl⟩

theorem serveAbsent (h : ThermalPatchLaws s) (i : Slot) : ThermalPatchLaws (s.serveAbsent i) := by
  have lost (t : State) (ht : ThermalPatchLaws t) : ThermalPatchLaws (t.loseDrive i) := by
    have ordered : ThermalPatchLaws (t.giveOrder i .release) := ht.of_frame ⟨rfl, rfl, rfl⟩
    unfold State.loseDrive
    dsimp only
    split
    · have left : ThermalPatchLaws ((t.giveOrder i .release).leaveQueue i) := ordered.of_frame (by simp)
      exact (left.clearSlot i).post _ _
    · have released : ThermalPatchLaws ((t.giveOrder i .release).releaseReservation i) := ordered.of_frame (by simp)
      exact (released.clearSlot i).post _ _
    · exact (ordered.clearSlot i).post _ _
  have absent : ThermalPatchLaws (s.putSlot i { s.slot i with present := false }) := h.of_frame ⟨rfl, rfl, rfl⟩
  unfold State.serveAbsent
  dsimp only
  repeat' split
  · exact absent
  · exact absent
  · exact lost _ absent

theorem serveLatchOpen (h : ThermalPatchLaws s) (i : Slot) : ThermalPatchLaws (s.serveLatchOpen i) := by
  have opened : ThermalPatchLaws (s.putSlot i { s.slot i with closed := false }) := h.of_frame ⟨rfl, rfl, rfl⟩
  unfold State.serveLatchOpen
  dsimp only
  split
  · exact opened.of_frame ⟨rfl, rfl, rfl⟩
  · exact opened.gradeToSpinDown i _ none _
  · exact opened.gradeToSpinDown i _ none _
  · exact opened.gradeToSpinDown i _ none _
  · exact opened.gradeToSpinDown i _ none _
  · exact opened

theorem serveStartAnswer (h : ThermalPatchLaws s) (i : Slot) (n : Nat) (r : FetchResult) :
    ThermalPatchLaws (s.serveStartAnswer i n r) := by
  unfold State.serveStartAnswer
  repeat' split
  · exact h.of_frame (by simp)
  · exact h.of_frame (by simp)
  · exact h.of_frame (by simp)
  · exact (h.releaseRef _).respond _ _ _ _
  · exact h.of_frame (by simp)

theorem serveLimitsAnswer (h : ThermalPatchLaws s) (i : Slot) (r : FetchResult) : ThermalPatchLaws (s.serveLimitsAnswer i r) := by
  unfold State.serveLimitsAnswer
  repeat' split
  · exact h.of_frame (by simp)
  · exact (h.gradeToSpinDown i _ _ _).respond _ _ _ _
  · exact h.of_frame (by simp)
  · exact h.of_frame (by simp)

theorem serveOvertemp (h : ThermalPatchLaws s) (i : Slot) : ThermalPatchLaws (s.serveOvertemp i) := by
  unfold State.serveOvertemp
  split
  · exact (h.gradeToSpinDown i _ none _).post _ _
  · exact h

theorem serveAbort (h : ThermalPatchLaws s) (a b : Nat) : ThermalPatchLaws (serveAbort a b s).1 := by
  unfold Machine.serveAbort
  dsimp only
  repeat' split
  · exact (h.gradeSlot _ _ none _).dispatch _
  · exact h.gradeToSpinDown _ _ none _
  · exact h
  · exact h

theorem unloadPlaced (h : ThermalPatchLaws s) (i : Slot) : ThermalPatchLaws (s.unloadPlaced i) := by
  have filled : ThermalPatchLaws (s.fillReservation i) := h.of_frame (by simp)
  unfold State.unloadPlaced
  split
  · exact filled.clearSlot i
  · exact h

theorem serveAccessDone (h : ThermalPatchLaws s) (a b : Nat) : ThermalPatchLaws (serveAccessDone a b s).1 := by
  have ended (r : Fin 2) (u : AccessUse) (p o q : Bool) : ThermalPatchLaws (s.endAccess r u p o q).1 := by
    unfold State.endAccess
    dsimp only
    repeat' split
    · exact h.of_frame (by simp)
    · exact h
    · exact h
    · exact (h.unloadPlaced _).freeAccess r
    · exact h.of_frame (by simp)
    · exact h
  unfold Machine.serveAccessDone
  repeat' split
  · exact ended _ _ _ _ _
  all_goals exact h

/-! ### PCU's requests (R138 to R143) -/

/-- PCU out of ACTIVE keeps its laws whatever its channels hold. -/
theorem setPcu (h : ThermalPatchLaws s) {q : Pcu} (off : q.unit ≠ .active) (g : q.generation = s.pcu.generation) :
    ThermalPatchLaws { s with pcu := q } := ⟨h.thermal, .of_inactive off (g ▸ h.patches.generation)⟩

theorem servePatchSet (h : ThermalPatchLaws s) (a b c d e f g : Nat) : ThermalPatchLaws (servePatchSet a b c d e f g s).1 := by
  unfold Machine.servePatchSet
  repeat' split
  · exact h
  · next editing => exact h.setPcu (by rw [not_not.1 editing]; decide) rfl
  · exact h

/-- PATCH APPLY leaves PCU ACTIVE only where every enabled channel validates (R141). -/
theorem servePatchApply (h : ThermalPatchLaws s) : ThermalPatchLaws (servePatchApply s).1 := by
  unfold Machine.servePatchApply
  repeat' split
  · exact h
  · exact h
  · exact h
  · next validates =>
    refine ⟨h.thermal, fun _ c hc enabled => ?_, Nat.min_le_left ..⟩
    have each := List.all_eq_true.1 (Bool.eq_true_of_not_eq_false validates) c hc
    rw [show c.enable = true from enabled] at each
    exact Channel.valid_sound each

/-! ### Requests (log entry 5) -/

/-- A request served by its block, refused by its link, or answered OVERRUN. -/
theorem request (h : ThermalPatchLaws s) (l : Link) (c : Instr) (serve : State → State × Reply)
    (hs : ThermalPatchLaws (serve s).1) : ThermalPatchLaws (s.request l c serve) := by
  rcases s.request_cases l c serve with e | e | e <;> rw [e]
  · exact hs.of_frame (by simp)
  · exact h.of_frame (by simp)
  · exact h.of_frame (by simp)

theorem storeRequest {serve : State → State × Reply} (h : ThermalPatchLaws (serve s).1) :
    ThermalPatchLaws (storeRequest serve s).1 :=
  h.of_frame (by simp [storeRequest_frame, storeRequest_blocks])

/-- Every service: those of TAU and PCU, those that write a block, and the others, which leave these alone. -/
theorem service (h : ThermalPatchLaws s) (c : Instr) : ThermalPatchLaws (service c s).1 := by
  cases c with
  | setScan p w => exact h.of_thermal (h.thermal.serveSetScan p w) (by simp [Machine.service])
  | setProfile n b w fs => exact h.of_thermal (h.thermal.serveSetProfile n b w fs) (by simp [Machine.service])
  | setOffset n z => exact h.of_thermal (h.thermal.serveSetOffset n z) (by simp [Machine.service])
  | patchEdit => exact h.setPcu nofun rfl
  | patchSet a b c d e f g => exact h.servePatchSet a b c d e f g
  | patchApply => exact h.servePatchApply
  | patchWithdraw => exact h.setPcu nofun rfl
  | program n => exact (h.serveProgram n).storeRequest
  | erase n => exact (h.serveErase n).storeRequest
  | blankCheck n => exact (h.serveBlankCheck n).storeRequest
  | stop => exact h.serveStop.storeRequest
  | abort a b => exact h.serveAbort a b
  | accessDone a b => exact h.serveAccessDone a b
  | _ => exact h.of_frame (by simp [Machine.service, storeRequest_frame, storeRequest_blocks])

/-! ### Events: each serves what is on its way, or changes nothing (log entry 2) -/

theorem sensorReading (h : ThermalPatchLaws s) (r : Option SensorReply) (ht : execSensorReading r s = .next t) :
    ThermalPatchLaws t := by
  refine h.of_thermal ?_ (by simp [execSensorReading_frame s t r ht])
  unfold execSensorReading at ht
  split at ht <;> cases ht
  · next i _ => exact ((h.thermal.setScan s.tau.scanStartAt (nextInScan i)).takeCaptures i).serveReading i r
  · exact h.thermal

theorem scanStart (h : ThermalPatchLaws s) (ht : execScanStart s = .next t) : ThermalPatchLaws t := by
  unfold execScanStart at ht
  split at ht <;> cases ht
  · exact h.of_thermal (h.thermal.setScan _ _) ⟨rfl, rfl⟩
  · exact h

theorem captureReport (h : ThermalPatchLaws s) (i : Slot) (ht : execCaptureReport i s = .next t) : ThermalPatchLaws t := by
  unfold execCaptureReport at ht
  split at ht <;> cases ht
  · exact h
  · exact h.of_thermal (h.thermal.clearHot i) ⟨rfl, rfl⟩

theorem presenceAbsentAtSsq (h : ThermalPatchLaws s) (i : Slot) (ht : execPresenceAbsentAtSsq i s = .next t) :
    ThermalPatchLaws t := by
  unfold execPresenceAbsentAtSsq at ht
  split at ht <;> cases ht
  · exact (h.setMail i _).serveAbsent i
  · exact h

theorem latchOpenAtSsq (h : ThermalPatchLaws s) (i : Slot) (ht : execLatchOpenAtSsq i s = .next t) : ThermalPatchLaws t := by
  unfold execLatchOpenAtSsq at ht
  split at ht <;> cases ht
  · exact (h.setMail i _).serveLatchOpen i
  · exact h

theorem overtempEvent (h : ThermalPatchLaws s) (i : Slot) (ht : execOvertempEvent i s = .next t) : ThermalPatchLaws t := by
  unfold execOvertempEvent at ht
  split at ht <;> cases ht
  · exact h
  · exact (h.setMail i _).serveOvertemp i

theorem startFetchAnswer (h : ThermalPatchLaws s) (ht : execStartFetchAnswer s = .next t) : ThermalPatchLaws t := by
  unfold execStartFetchAnswer at ht
  split at ht <;> cases ht
  · exact h.endFetch.serveStartAnswer _ _ _
  · exact h

theorem limitsFetchAnswer (h : ThermalPatchLaws s) (ht : execLimitsFetchAnswer s = .next t) : ThermalPatchLaws t := by
  unfold execLimitsFetchAnswer at ht
  split at ht <;> cases ht
  · exact h.endFetch.serveLimitsAnswer _ _
  · exact h

theorem startFetch (h : ThermalPatchLaws s) (ht : execStartFetch s = .next t) : ThermalPatchLaws t := by
  unfold execStartFetch at ht
  split at ht <;> cases ht
  · exact h.fetchReaches _
  · exact h

theorem stageFetch (h : ThermalPatchLaws s) (ht : execStageFetch s = .next t) : ThermalPatchLaws t := by
  unfold execStageFetch at ht
  split at ht <;> cases ht
  · exact h.fetchReaches _
  · exact h

theorem limitsFetch (h : ThermalPatchLaws s) (ht : execLimitsFetch s = .next t) : ThermalPatchLaws t := by
  unfold execLimitsFetch at ht
  split at ht <;> cases ht
  · exact h.fetchReaches _
  · exact h

theorem programCompletion (h : ThermalPatchLaws s) (q : Bool) (ht : execProgramCompletion q s = .next t) :
    ThermalPatchLaws t := by
  unfold execProgramCompletion at ht
  split at ht <;> cases ht
  · exact h.programEnds _ _ _ q
  · exact h


/-- The block that a running operation works on, a LOCK apart, is INVALID until the operation ends (R114). -/
theorem eraseCompletion (h : ThermalPatchLaws s) (hs : StoreLaws s.rst) (q : Bool) (ht : execEraseCompletion q s = .next t) :
    ThermalPatchLaws t := by
  unfold execEraseCompletion at ht
  split at ht <;> cases ht
  · next b _ _ _ running =>
    have invalid : (s.block b).state = .invalid := (hs.running _ running).1
    exact h.eraseEnds _ b q (by rw [invalid]; decide)
  · exact h

theorem blankCheckCompletion (h : ThermalPatchLaws s) (hs : StoreLaws s.rst) (q : Bool)
    (ht : execBlankCheckCompletion q s = .next t) : ThermalPatchLaws t := by
  unfold execBlankCheckCompletion at ht
  split at ht <;> cases ht
  · next b _ _ _ _ running =>
    have invalid : (s.block b).state = .invalid := (hs.running _ running).1.1
    exact h.blankCheckEnds _ b _ q (by rw [invalid]; decide)
  · exact h

theorem clearBlockCompletion (h : ThermalPatchLaws s) (hs : StoreLaws s.rst) (q : Bool)
    (ht : execClearBlockCompletion q s = .next t) : ThermalPatchLaws t := by
  unfold execClearBlockCompletion at ht
  split at ht <;> cases ht
  · next b _ _ _ _ _ running =>
    have invalid : (s.block b).state = .invalid := (hs.running _ running).1.1
    exact h.clearBlockEnds _ b _ q (by rw [invalid]; decide)
  · exact h

theorem lockCompletion (h : ThermalPatchLaws s) (ht : execLockCompletion s = .next t) : ThermalPatchLaws t := by
  unfold execLockCompletion at ht
  split at ht <;> cases ht
  · exact h.lockEnds _ _
  · exact h

theorem clearBlockErasure (h : ThermalPatchLaws s) (ht : execClearBlockErasure s = .next t) : ThermalPatchLaws t := by
  unfold execClearBlockErasure at ht
  repeat' split at ht
  all_goals cases ht
  · exact h.begins _ _
  · exact h
  · exact h

theorem suspensionEvent (h : ThermalPatchLaws s) (ht : execSuspensionEvent s = .next t) : ThermalPatchLaws t := by
  unfold execSuspensionEvent at ht
  repeat' split at ht
  all_goals cases ht
  · exact (h.answerWaiting.suspendOrGoOn _).clearOverride
  · exact (h.suspendOrGoOn _).clearOverride
  · exact h
  · exact h

theorem receiveAll (l : Link) (bs : List Byte) : ∀ s, ThermalPatchLaws s →
    ThermalPatchLaws (bs.foldl (fun t x => t.receive l x) s) := by
  induction bs with
  | nil => exact fun _ h => h
  | cons x xs ih => exact fun s h => ih _ (h.of_frame (by simp))

theorem receive (h : ThermalPatchLaws s) (l : Link) (x : Byte) : ThermalPatchLaws (s.receive l x) := h.of_frame (by simp)

/-- After the reset effect TAU holds its reset values and PCU is OFF (R113, R147). -/
theorem afterReset (cells : Vector RecipeBlock 32) (m : StoreMode) (n : Nat) (q : List Instr) :
    ThermalPatchLaws (State.afterReset cells m n q) :=
  ⟨thermalLaws_reset, .of_inactive nofun (Nat.zero_le _)⟩

/-- The events: those that reach TAU or write a block, and the others, each of which leaves these alone. -/
theorem event (h : ThermalPatchLaws s) (hs : StoreLaws s.rst) (c : Instr) (hr : requestLink c = none)
    (ht : Machine.exec c s = .next t) : ThermalPatchLaws t := by
  cases c with
  | resetEffect => cases ht; exact afterReset _ _ _ _
  | scanStart => exact h.scanStart ht
  | sensorReading r => exact h.sensorReading r ht
  | captureReport i => exact h.captureReport i ht
  | presenceAbsentAtSsq i => exact h.presenceAbsentAtSsq i ht
  | latchOpenAtSsq i => exact h.latchOpenAtSsq i ht
  | overtempEvent i => exact h.overtempEvent i ht
  | startFetch => exact h.startFetch ht
  | stageFetch => exact h.stageFetch ht
  | limitsFetch => exact h.limitsFetch ht
  | startFetchAnswer => exact h.startFetchAnswer ht
  | limitsFetchAnswer => exact h.limitsFetchAnswer ht
  | programCompletion q => exact h.programCompletion q ht
  | eraseCompletion q => exact h.eraseCompletion hs q ht
  | blankCheckCompletion q => exact h.blankCheckCompletion hs q ht
  | lockCompletion => exact h.lockCompletion ht
  | clearBlockErasure => exact h.clearBlockErasure ht
  | clearBlockCompletion q => exact h.clearBlockCompletion hs q ht
  | suspensionEvent => exact h.suspensionEvent ht
  | requestFrame l bs => cases ht; exact receiveAll l bs s h
  | lengthFault l x => cases ht; exact h.receive l x
  | receivedByte l x => cases ht; exact h.receive l x
  | frameTimeout l => exact h.of_frame (by simp [execFrameTimeout_frame s t l ht])
  | responseSent l => exact h.of_frame (by simp [execResponseSent_frame s t l ht])
  | rackTimeAdvance => exact h.of_frame (by simp [execRackTimeAdvance_frame s t ht])
  | deadlineExpiry i => exact h.of_frame (by simp [execDeadlineExpiry_frame s t i ht])
  | accountingTick => exact h.of_frame (by simp [execAccountingTick_frame s t ht])
  | creditEvent i => exact h.of_frame (by simp [execCreditEvent_frame s t i ht])
  | sample p q => exact h.of_frame (by simp [execSample_frame s t p q ht])
  | presencePresentAtSsq i => exact h.of_frame (by simp [execPresencePresentAtSsq_frame s t i ht])
  | latchClosedAtSsq i => exact h.of_frame (by simp [execLatchClosedAtSsq_frame s t i ht])
  | presenceChangeAtQac i => exact h.of_frame (by simp [execPresenceChangeAtQac_frame s t i ht])
  | disturbanceOrder i => exact h.of_frame (by simp [execDisturbanceOrder_frame s t i ht])
  | askOrder i => exact h.of_frame (by simp [execAskOrder_frame s t i ht])
  | releaseQuietOrder i => exact h.of_frame (by simp [execReleaseQuietOrder_frame s t i ht])
  | slotChangeReport i => exact h.of_frame (by simp [execSlotChangeReport_frame s t i ht])
  | quietTimeoutExpiry r => exact h.of_frame (by simp [execQuietTimeoutExpiry_frame s t r ht])
  | holdLimitExpiry r => exact h.of_frame (by simp [execHoldLimitExpiry_frame s t r ht])
  | spinUpStartReport i => exact h.of_frame (by simp [execSpinUpStartReport_frame s t i ht])
  | spinUpTimerExpiry i => exact h.of_frame (by simp [execSpinUpTimerExpiry_frame s t i ht])
  | spinUpExpiry i => exact h.of_frame (by simp [execSpinUpExpiry_frame s t i ht])
  | powerOffOrder i => exact h.of_frame (by simp [execPowerOffOrder_frame s t i ht])
  | spinDownOrder i => exact h.of_frame (by simp [execSpinDownOrder_frame s t i ht])
  | releaseOrder i => exact h.of_frame (by simp [execReleaseOrder_frame s t i ht])
  | spinDownTimerExpiry i => exact h.of_frame (by simp [execSpinDownTimerExpiry_frame s t i ht])
  | spinDownExpiry i => exact h.of_frame (by simp [execSpinDownExpiry_frame s t i ht])
  | stageFetchAnswer => exact h.of_frame (by simp [execStageFetchAnswer_frame s t ht])
  | _ => cases hr

/-- Every command keeps the laws. -/
theorem exec (h : ThermalPatchLaws s) (hs : StoreLaws s.rst) (c : Instr) (ht : Machine.exec c s = .next t) :
    ThermalPatchLaws t := by
  cases hr : requestLink c with
  | some l =>
    rw [exec_request c l s hr] at ht
    cases ht
    exact h.request l c _ (h.service c)
  | none => exact h.event hs c hr ht

end ThermalPatchLaws

/-- Settles O45: every command keeps the laws of TAU and PCU, request by request and event by event. -/
theorem thermalAndPatchLawsAreKept : Obligations.ThermalAndPatchLawsAreKept := by
  intro s t h ht
  rcases step_cases s t ht with rfl | ⟨c, rest, -, hc⟩
  · exact ⟨h.thermal, h.patches⟩
  · have laws : ThermalPatchLaws { s with pending := rest } :=
      (ThermalPatchLaws.mk h.thermal h.patches).of_frame ⟨rfl, rfl, rfl⟩
    obtain ⟨thermal, patches⟩ := laws.exec h.store c hc
    exact ⟨thermal, patches⟩

end Sys2Proof.Machine
end

section
/-! TAU's requests (R104, R107, R112): SET SCAN, SET OFFSET and SET PROFILE set their values or are refused. -/

namespace Sys2Proof.Machine

/-! ### SET SCAN (R112) -/

theorem serveSetScan_legal (p w : Nat) (s : State) (h : 1 ≤ p ∧ p ≤ 10 ∧ 1 ≤ w ∧ w ≤ 8) :
    serveSetScan p w s = ({ s with tau := { s.tau with period := p, weight := w } }, .done []) := by
  obtain ⟨p1, p10, hw⟩ := h
  simp only [serveSetScan, natIn?_in ⟨p1, p10⟩, natIn?_in hw]

theorem serveSetScan_range (p w : Nat) (s : State) (h : ¬ (1 ≤ p ∧ p ≤ 10 ∧ 1 ≤ w ∧ w ≤ 8)) :
    serveSetScan p w s = (s, .refuse .range) := by
  unfold serveSetScan
  split
  · next hp hw =>
    obtain ⟨-, p1, p10⟩ := natIn?_some hp
    obtain ⟨-, w1, w8⟩ := natIn?_some hw
    exact absurd ⟨p1, p10, w1, w8⟩ h
  · rfl

/-! ### SET OFFSET (R104) -/

theorem serveSetOffset_slot (i : Slot) (z : Int) (s : State) (h : -32 ≤ z ∧ z ≤ 31) :
    serveSetOffset i.val z s = ({ s with tau := { s.tau with offsets := tset s.tau.offsets i z } }, .done []) := by
  simp only [serveSetOffset, slotOf?_val, intIn?_in h]

theorem serveSetOffset_range (n : Nat) (z : Int) (s : State) (h : 24 ≤ n ∨ z < -32 ∨ 31 < z) :
    serveSetOffset n z s = (s, .refuse .range) := by
  rcases h with h | h
  · simp only [serveSetOffset, slotOf?_none h]
  · simp only [serveSetOffset, intIn?_out h]
    cases slotOf? n <;> rfl

/-! ### SET PROFILE (R107) -/

theorem State.profileInUse_iff (s : State) (p : Fin 2) : s.profileInUse p = true ↔
    ∃ i c, (s.slot i).state = .running ∧ (s.slot i).context = some c ∧ c.profile = p := by
  simp only [State.profileInUse, List.any_eq_true, mem_allSlots, true_and, Bool.and_eq_true, beq_iff_eq,
    Option.map_eq_some_iff, exists_and_left]

/-- The values of a profile lie in their ranges (R107). -/
abbrev profileLegal (b : Int) (w : Nat) (fs : List Nat) : Prop :=
  -160 ≤ b ∧ b ≤ 500 ∧ 4 ≤ w ∧ w ≤ 40 ∧ ∀ f ∈ fs, f ≤ 255

theorem serveSetProfile_range (n : Nat) (b : Int) (w : Nat) (fs : List Nat) (s : State) (h : 2 ≤ n ∨ ¬ profileLegal b w fs) :
    serveSetProfile n b w fs s = (s, .refuse .range) := by
  unfold serveSetProfile
  split
  · next p b' w' v hp hb hw hv =>
    refine absurd h (not_or.2 ⟨fun big => ?_, not_not.2 ?_⟩)
    · rw [profileOf?_none big] at hp
      cases hp
    · obtain ⟨-, b1, b2⟩ := intIn?_some hb
      obtain ⟨-, w1, w2⟩ := natIn?_some hw
      obtain ⟨rfl, each⟩ := (factorsOf?_eq_some fs v).1 hv
      exact ⟨b1, b2, w1, w2, (forall_mem_toList v _).2 each⟩
  · rfl

theorem serveSetProfile_legal (p : Fin 2) (b : Int) (w : Nat) (v : Vector Nat 16) (s : State) (h : profileLegal b w v.toList) :
    serveSetProfile p.val b w v.toList s =
      if s.profileInUse p then (s, .refuse .inUse)
      else ({ s with tau := { s.tau with profiles := tset s.tau.profiles p ⟨b, w, v⟩ } }, .done []) := by
  obtain ⟨b1, b2, w1, w2, each⟩ := h
  have table : factorsOf? v.toList = some v := (factorsOf?_eq_some _ v).2 ⟨rfl, (forall_mem_toList v _).1 each⟩
  simp only [serveSetProfile, profileOf?_val, intIn?_in (lo := Config.minTemp) (hi := Config.maxTemp) ⟨b1, b2⟩,
    natIn?_in ⟨w1, w2⟩, table]

/-- Settles O44: each request sets its values when all lie in their ranges and its profile is not in use, and is refused
otherwise. -/
theorem thermalSettingsAreSet : Obligations.ThermalSettingsAreSet := by
  intro s
  refine ⟨fun p w ready => ?_, fun n z ready => ⟨fun h => ?_, ?_⟩, fun n b w fs ready sixteen => ?_⟩
  · split
    · next h => exact exec_ready_now _ .line s _ .done [] rfl ready (serveSetScan_legal p w s h) rfl
    · next h => exact exec_ready_refused _ .line s .range rfl ready (serveSetScan_range p w s h)
  · exact exec_ready_refused _ .line s .range rfl ready (serveSetOffset_range n z s h)
  · rintro i rfl lo hi
    exact exec_ready_now _ .line s _ .done [] rfl ready (serveSetOffset_slot i z s ⟨lo, hi⟩) rfl
  · obtain ⟨v, rfl⟩ : ∃ v : Vector Nat 16, v.toList = fs := ⟨⟨fs.toArray, sixteen⟩, rfl⟩
    refine ⟨fun h => exec_ready_refused _ .line s .range rfl ready (serveSetProfile_range n b w _ s h), ?_⟩
    rintro p rfl legal used
    have served := serveSetProfile_legal p b w v s legal
    refine ⟨fun h => ?_, fun h => ⟨⟨b, w, v⟩, rfl, rfl, rfl, ?_⟩⟩
    · rw [if_pos ((s.profileInUse_iff p).2 h)] at served
      exact exec_ready_refused _ .line s .inUse rfl ready served
    · rw [if_neg (mt (s.profileInUse_iff p).1 h)] at served
      exact exec_ready_now _ .line s _ .done [] rfl ready served rfl

end Sys2Proof.Machine
end

section
/-! The scan and its readings (R98 to R103, R105, R110, R111). -/

namespace Sys2Proof.Machine

/-! ### The state a reading leaves -/

/-- The state after the reading of a scan's next slot: the slot's context as the reading leaves it, its captures taken, and the
scan gone on (R98, R111). -/
def State.readWith (s : State) (i : Slot) (c : TempContext) : State := { s with
  tau := { s.tau with scanNext := nextInScan i, contexts := tset s.tau.contexts i c }
  mail := tset s.mail i { s.mailOf i with captures := 0 } }

/-- The context a reading finds: after the captures on their way, whose reports start a new hot run (R111). -/
def State.tempAtReading (s : State) (i : Slot) : TempContext :=
  { s.temp i with hot := if (s.mailOf i).captures = 0 then (s.temp i).hot else 0 }

theorem State.takeCaptures_scanning (s : State) (i : Slot) :
    ({ s with tau := { s.tau with scanNext := nextInScan i } }.takeCaptures i) = s.readWith i (s.tempAtReading i) := by
  by_cases none : (s.mailOf i).captures = 0
  · have context : tset s.tau.contexts i (s.tempAtReading i) = s.tau.contexts := by
      rw [State.tempAtReading, if_pos none]
      exact tset_tget ..
    have mail : tset s.mail i { s.mailOf i with captures := 0 } = s.mail := by
      rw [← none]
      exact tset_tget ..
    rw [State.readWith, context, mail]
    exact if_pos none
  · rw [State.readWith, State.tempAtReading, if_neg none]
    exact if_neg none

theorem exec_sensorReading_scanning (reply : Option SensorReply) (s : State) {i : Slot} (h : s.tau.scanNext = some i) :
    exec (.sensorReading reply) s = .next ((s.readWith i (s.tempAtReading i)).serveReading i reply) := by
  rw [← s.takeCaptures_scanning i]
  change execSensorReading reply s = _
  simp only [execSensorReading, h]

theorem exec_scanStart (s : State) : exec .scanStart s = .next (
    if s.tau.scanNext = none ∧ s.tau.scanStartAt + s.tau.period * 1000 ≤ s.rck.osc then
      { s with tau := { s.tau with scanStartAt := s.rck.osc, scanNext := some 0 } }
    else s) := by
  change execScanStart s = _
  simp only [execScanStart, State.reached, decide_eq_true_eq]
  split <;> rfl

/-! ### What the reading finds and writes -/

@[simp] theorem State.slot_readWith (s : State) (i j : Slot) (c : TempContext) : (s.readWith i c).slot j = s.slot j := rfl

@[simp] theorem State.temp_readWith (s : State) (i : Slot) (c : TempContext) : (s.readWith i c).temp i = c :=
  tget_tset_same ..

@[simp] theorem State.mailOf_readWith (s : State) (i : Slot) (c : TempContext) :
    (s.readWith i c).mailOf i = { s.mailOf i with captures := 0 } := tget_tset_same ..

@[simp] theorem State.setTemp_readWith (s : State) (i : Slot) (c d : TempContext) :
    (s.readWith i c).setTemp i d = s.readWith i d := by
  simp only [State.readWith, State.setTemp, tset_tset]

/-! ### Accepted readings (R99) -/

/-- The two bytes of a reply as a signed count of quarter-degrees. -/
theorem sensorValue_eq (q : SensorReply) : sensorValue q =
    if (q.high.toNat : Int) * 256 + q.low.toNat < 32768 then (q.high.toNat : Int) * 256 + q.low.toNat
    else (q.high.toNat : Int) * 256 + q.low.toNat - 65536 := by
  rw [sensorValue, signedOf_sixteen, show beNat [q.high, q.low] = q.high.toNat * 256 + q.low.toNat by simp [beNat]]
  split <;> split <;> omega

theorem acceptedReading?_accepted {q : SensorReply} (check : crc8 [q.high, q.low] = q.check)
    (range : -160 ≤ sensorValue q ∧ sensorValue q ≤ 500) : acceptedReading? (some q) = some (sensorValue q) := by
  simp only [acceptedReading?, if_pos check]
  exact intIn?_in range

theorem acceptedReading?_failed {reply : Option SensorReply} (h : ∀ q ∈ reply,
    ¬ (crc8 [q.high, q.low] = q.check ∧ -160 ≤ sensorValue q ∧ sensorValue q ≤ 500)) : acceptedReading? reply = none := by
  cases reply with
  | none => rfl
  | some q =>
    by_cases check : crc8 [q.high, q.low] = q.check
    · simp only [acceptedReading?, if_pos check]
      refine if_neg fun range => h q rfl ⟨check, range⟩
    · exact if_neg check

/-! ### The filtered temperature and the hot run (R103, R105, R110) -/

theorem clampTemp_eq (z : Int) : clampTemp z = if z < -160 then -160 else if 500 < z then 500 else z := by
  simp only [clampTemp, Config.minTemp, Config.maxTemp]
  omega

/-- A reading that is too hot for the slot's stage (R110). -/
def SlotRecord.tooHot (r : SlotRecord) (tf : Int) : Prop :=
  r.state = .running ∧ ∃ x m, r.context = some x ∧ x.maxTemp = some m ∧ m < tf

theorem SlotRecord.runningMax?_eq_some (r : SlotRecord) (m : Int) :
    r.runningMax? = some m ↔ r.state = .running ∧ ∃ x, r.context = some x ∧ x.maxTemp = some m := by
  simp only [SlotRecord.runningMax?, Option.ite_none_right_eq_some, Option.bind_eq_some_iff]

theorem hotAfter_tooHot {r : SlotRecord} {tf : Int} (h : r.tooHot tf) (n : Nat) : hotAfter r tf n = n + 1 := by
  obtain ⟨running, x, m, hx, hm, above⟩ := h
  simp only [hotAfter, (r.runningMax?_eq_some m).2 ⟨running, x, hx, hm⟩, if_pos above]

theorem hotAfter_not_tooHot {r : SlotRecord} {tf : Int} (h : ¬ r.tooHot tf) (n : Nat) : hotAfter r tf n = 0 := by
  unfold hotAfter
  split
  · next m hmax =>
    obtain ⟨running, x, hx, hm⟩ := (r.runningMax?_eq_some m).1 hmax
    exact if_neg fun above => h ⟨running, x, m, hx, hm, above⟩
  · rfl

/-! ### The reading served (R99 to R101) -/

theorem State.serveReading_absent (s : State) (i : Slot) (c : TempContext) (reply : Option SensorReply)
    (h : (s.slot i).present = false) : (s.readWith i c).serveReading i reply = s.readWith i .cleared := by
  rw [State.serveReading, State.slot_readWith, if_pos h, State.setTemp_readWith]

theorem State.serveReading_failed (s : State) (i : Slot) (c : TempContext) {reply : Option SensorReply}
    (present : (s.slot i).present = true) (h : acceptedReading? reply = none) : (s.readWith i c).serveReading i reply =
      if 2 ≤ c.failures ∧ c.stale = false then (s.readWith i ⟨none, 3, 0, true⟩).post .sensorStale i.val
      else s.readWith i { c with failures := min 3 (c.failures + 1) } := by
  rw [State.serveReading, State.slot_readWith, if_neg (by rw [present]; decide), h]
  simp only [State.readingFails, State.temp_readWith, State.setTemp_readWith]

theorem State.serveReading_accepted (s : State) (i : Slot) (c : TempContext) {reply : Option SensorReply} {raw : Int}
    (present : (s.slot i).present = true) (h : acceptedReading? reply = some raw) {tf : Int}
    (ht : tf = filterTemp s.tau.weight c.filtered (clampTemp (raw + tget s.tau.offsets i))) :
    (s.readWith i c).serveReading i reply =
      if 3 ≤ hotAfter (s.slot i) tf c.hot then (s.readWith i ⟨some tf, 0, 0, false⟩).setMail i
        { s.mailOf i with captures := 0, overtemps := (s.mailOf i).overtemps + 1 }
      else s.readWith i ⟨some tf, 0, hotAfter (s.slot i) tf c.hot, false⟩ := by
  rw [State.serveReading, State.slot_readWith, if_neg (by rw [present]; decide), h, ht]
  simp only [State.readingAccepted, State.temp_readWith, State.setTemp_readWith, State.slot_readWith, State.mailOf_readWith]
  rfl

/-- Settles O42: the scan's place, and what the reading makes of the context it finds: cleared, failed, or filtered with its hot
run. -/
theorem scansReadEverySlot : Obligations.ScansReadEverySlot := by
  refine fun s => ⟨?_, fun reply => ⟨fun idle => ?_, fun i scanning => ?_⟩⟩
  · exact exec_scanStart s
  · change execSensorReading reply s = _
    simp only [execSensorReading, idle]
  intro m v c failed value accepted
  have served := exec_sensorReading_scanning reply s scanning
  have read (q : SensorReply) : value q = sensorValue q := (sensorValue_eq q).symm
  refine ⟨fun absent => ?_, fun present none => ?_, ?_⟩
  · rw [served, s.serveReading_absent i _ reply absent]
    rfl
  · rw [s.serveReading_failed i _ present (acceptedReading?_failed fun q hq => read q ▸ none q hq)] at served
    exact served
  · rintro q present rfl ⟨check, range⟩ raw tc w
    have clamped : tc = clampTemp (sensorValue q + tget s.tau.offsets i) := by rw [clampTemp_eq, ← read]
    let tf := filterTemp s.tau.weight c.filtered tc
    have hotRun := s.serveReading_accepted i (s.tempAtReading i) (tf := tf) present
      (acceptedReading?_accepted check (read q ▸ range)) (by rw [← clamped]; rfl)
    rw [hotRun] at served
    refine ⟨tf, fun fresh => ?_, fun old earlier => ?_, fun cool => ?_, fun hot run => ?_, fun hot run => ?_⟩
    · simp only [tf, fresh, filterTemp]
    · have moved : tf - old = filterStep s.tau.weight (tc - old) := by
        simp only [tf, earlier, filterTemp]
        omega
      rw [moved]
      exact ⟨fun rise => filterStep_rise _ (by omega), fun fall => filterStep_fall _ (by omega)⟩
    · rw [hotAfter_not_tooHot cool] at served
      exact served
    · rw [hotAfter_tooHot hot, if_neg (by change ¬ 3 ≤ c.hot + 1; omega)] at served
      exact served
    · rw [hotAfter_tooHot hot, if_pos (by change 3 ≤ c.hot + 1; omega)] at served
      exact served

end Sys2Proof.Machine
end

section
/-! Staging (R116 to R119): what the buffer describes, and what the requests write into it. -/

namespace Sys2Proof.Machine

/-! ### When a buffer describes a recipe (R119) -/

theorem forall_lt_succ_head (P : Nat → Prop) (n : Nat) : (∀ i < n + 1, P i) ↔ P 0 ∧ ∀ i < n, P (i + 1) :=
  Nat.forall_lt_succ_left

/-- No held place follows an empty one exactly when all that follow are empty. -/
theorem all_isNone_iff {α : Type} (l : List (Option α)) : l.all Option.isNone = true ↔ ∀ i < l.length, l[i]? = some none := by
  rw [List.all_eq_true, List.forall_mem_iff_getElem]
  exact forall_congr' fun i => ⟨fun h hi => by simpa [hi] using h hi, fun h hi => by simpa [hi] using h hi⟩

/-- Places are contiguous from 0 exactly when place by place they hold what the list of their entries holds. -/
theorem contiguous_eq_some {α : Type} (l : List (Option α)) : ∀ es : List α,
    contiguous l = some es ↔ es.length ≤ l.length ∧ ∀ i < l.length, l[i]? = some es[i]? := by
  induction l with
  | nil => intro es; cases es <;> simp [contiguous]
  | cons place rest ih =>
    intro es
    rw [List.length_cons, forall_lt_succ_head]
    cases place with
    | none =>
      cases es with
      | nil => simpa [contiguous] using all_isNone_iff rest
      | cons e es =>
        refine iff_of_false ?_ fun h => nomatch h.2.1
        unfold contiguous
        split <;> nofun
    | some e =>
      cases es with
      | nil =>
        refine iff_of_false ?_ fun h => nomatch h.2.1
        simp [contiguous]
      | cons e' es =>
        simp only [contiguous, Option.map_eq_some_iff, ih, List.length_cons, Nat.add_le_add_iff_right,
          List.getElem?_cons_zero, List.getElem?_cons_succ, List.cons.injEq, Option.some.injEq]
        exact ⟨fun ⟨_, h, he, hes⟩ => hes ▸ ⟨h.1, he, h.2⟩, fun ⟨h, he, hes⟩ => ⟨es, ⟨h, hes⟩, he, rfl⟩⟩

/-- A table's places are contiguous from 0 exactly when each holds what the list of its entries holds there. -/
theorem contiguous_table {α : Type} {n : Nat} (v : Vector (Option α) n) (es : List α) :
    contiguous v.toList = some es ↔ es.length ≤ n ∧ ∀ i : Fin n, tget v i = es[i.val]? := by
  rw [contiguous_eq_some, Vector.length_toList]
  refine and_congr_right fun _ => ⟨fun h i => ?_, fun h i hi => ?_⟩
  · simpa [tget] using h i.val i.isLt
  · simpa [tget, hi] using h ⟨i, hi⟩

theorem StageEntry.consistent_iff (e : StageEntry) :
    e.consistent = true ↔ (e.kind = .soak → e.target.isSome = true) ∧ (e.suspendable = true → e.sensitive = true) := by
  simp only [StageEntry.consistent, Bool.and_eq_true, Bool.or_eq_true, bne_iff_ne, Bool.not_eq_true']
  cases e.suspendable <;> by_cases h : e.kind = .soak <;> simp [h]

theorem limitsOrdered_iff (v : Vector (Option LimitsEntry) 8) :
    limitsOrdered v = true ↔ ∀ m e, tget v m = some e → e.a ≤ e.b ∧ e.b ≤ e.r := by
  simp only [limitsOrdered, List.all_eq_true]
  refine ⟨fun h m e he => ?_, fun h m _ => ?_⟩
  · have := h m (List.mem_finRange m)
    rw [he] at this
    exact of_decide_eq_true this
  · split
    · next e he => exact decide_eq_true (h m e he)
    · rfl

/-- The buffer describes a recipe exactly when it holds its header, its stages place by place and its limits, the stages
consistent and the limits in order (R119). -/
theorem Staging.recipe?_eq_some (t : Staging) (r : Recipe) : t.recipe? = some r ↔
    t.header = some r.header ∧ contiguous t.steps.toList = some r.stages ∧ r.stages ≠ [] ∧
      (∀ e ∈ r.stages, e.consistent = true) ∧ limitsOrdered t.limits = true ∧ t.limits = r.limits := by
  unfold Staging.recipe?
  split
  · next h e rest hh hs =>
    rw [hh, hs, Option.ite_none_right_eq_some, List.all_eq_true]
    constructor
    · rintro ⟨⟨consistent, ordered⟩, he⟩
      cases he
      exact ⟨rfl, rfl, nofun, consistent, ordered, rfl⟩
    · rintro ⟨he, hl, -, consistent, ordered, hlimits⟩
      cases r
      cases he
      cases hl
      cases hlimits
      exact ⟨⟨consistent, ordered⟩, rfl⟩
  · next other =>
    refine iff_of_false nofun ?_
    rintro ⟨hh, hs, filled, -⟩
    obtain ⟨e, rest, hr⟩ := List.exists_cons_of_ne_nil filled
    exact other _ e rest hh (hr ▸ hs)

/-! ### The requests (R117 to R119) -/

/-- An optional argument lies in its range: absent, or present with a value of the range (R6, R7). -/
abbrev optBetween (o : OptArg) (lo hi : Int) : Prop := o.presence = 0 ∨ (o.presence = 1 ∧ lo ≤ o.value ∧ o.value ≤ hi)

/-- The value an optional argument carries. -/
abbrev optGiven (o : OptArg) : Option Int := if o.presence = 1 then some o.value else none

/-- The three ways an optional argument is read, by its presence byte (R6). -/
theorem optIn?_eq_some {α : Type} (range : Int → Option α) (o : OptArg) (x : Option α) : optIn? range o = some x ↔
    o.presence = 0 ∧ x = none ∨ o.presence = 1 ∧ ∃ v, range o.value = some v ∧ x = some v := by
  unfold optIn?
  split
  · next h => simp [h, eq_comm]
  · next h => simp [h, eq_comm]
  · next absent present => exact iff_of_false nofun (by rintro (⟨h, -⟩ | ⟨h, -⟩) <;> contradiction)

theorem optIn?_minutes (o : OptArg) (hi : Nat) (x : Option Nat) : optIn? (minutesIn? hi) o = some x ↔
    optBetween o 1 hi ∧ x.map (fun n : Nat => (n : Int)) = optGiven o := by
  rw [optIn?_eq_some]
  constructor
  · rintro (⟨absent, rfl⟩ | ⟨present, v, hv, rfl⟩)
    · exact ⟨.inl absent, by simp [optGiven, absent]⟩
    · obtain ⟨range, hv⟩ := Option.ite_none_right_eq_some.1 hv
      refine ⟨.inr ⟨present, range⟩, ?_⟩
      rw [optGiven, if_pos present, ← Option.some.inj hv, Option.map_some, Int.toNat_of_nonneg (by omega)]
  · rintro ⟨absent | ⟨present, range⟩, given⟩
    · rw [optGiven, if_neg (by omega), Option.map_eq_none_iff] at given
      exact .inl ⟨absent, given⟩
    · rw [optGiven, if_pos present, Option.map_eq_some_iff] at given
      obtain ⟨n, rfl, hn⟩ := given
      exact .inr ⟨present, n, by rw [minutesIn?, if_pos range, ← hn, Int.toNat_natCast], rfl⟩

theorem optIn?_temp (o : OptArg) (x : Option Int) : optIn? tempIn? o = some x ↔
    optBetween o (-160) 500 ∧ x = optGiven o := by
  rw [optIn?_eq_some]
  constructor
  · rintro (⟨absent, rfl⟩ | ⟨present, v, hv, rfl⟩)
    · exact ⟨.inl absent, by simp [optGiven, absent]⟩
    · obtain ⟨range, hv⟩ := Option.ite_none_right_eq_some.1 hv
      exact ⟨.inr ⟨present, range⟩, by rw [optGiven, if_pos present, ← hv]⟩
  · rintro ⟨absent | ⟨present, range⟩, rfl⟩
    · exact .inl ⟨absent, if_neg (by omega)⟩
    · exact .inr ⟨present, o.value, intIn?_in range, if_pos present⟩

theorem boolOf?_eq_some (n : Nat) (b : Bool) : boolOf? n = some b ↔ n ≤ 1 ∧ (b = true ↔ n = 1) := by
  unfold boolOf?
  split
  · cases b <;> simp
  · cases b <;> simp
  · next zero one =>
    refine iff_of_false nofun ?_
    rintro ⟨small, -⟩
    interval_cases n
    · exact zero rfl
    · exact one rfl

theorem kindOf?_eq_some (n : Nat) (k : StageKind) : kindOf? n = some k ↔ k.code = n := by
  unfold kindOf?
  split
  · cases k <;> decide
  · cases k <;> decide
  · cases k <;> decide
  · exact iff_of_false nofun (by cases k <;> (rintro rfl; contradiction))

theorem creditModeOf?_eq_some (n : Nat) (m : CreditMode) : creditModeOf? n = some m ↔ m.code = n := by
  unfold creditModeOf?
  split
  · cases m <;> decide
  · cases m <;> decide
  · exact iff_of_false nofun (by cases m <;> (rintro rfl; contradiction))

theorem profileOf?_eq_some (n : Nat) (p : Fin 2) : profileOf? n = some p ↔ p.val = n := by
  unfold profileOf?
  split
  · rw [Option.some.injEq, Fin.ext_iff, eq_comm]
  · exact iff_of_false nofun (by omega)

/-- The entry that STAGE STEP's arguments spell, each in its range (R118). -/
theorem stageEntryOf?_eq_some (k se su : Nat) (target : OptArg) (mode p : Nat) (limit temp : OptArg) (e : StageEntry) :
    stageEntryOf? k se su target mode p limit temp = some e ↔
      e.kind.code = k ∧ (se ≤ 1 ∧ (e.sensitive = true ↔ se = 1)) ∧ (su ≤ 1 ∧ (e.suspendable = true ↔ su = 1)) ∧
      (optBetween target 1 65535 ∧ e.target.map (fun n : Nat => (n : Int)) = optGiven target) ∧ e.mode.code = mode ∧
      e.profile.val = p ∧ (optBetween limit 1 10080 ∧ e.limit.map (fun n : Nat => (n : Int)) = optGiven limit) ∧
      optBetween temp (-160) 500 ∧ e.maxTemp = optGiven temp := by
  rw [← kindOf?_eq_some, ← boolOf?_eq_some, ← boolOf?_eq_some, ← creditModeOf?_eq_some, ← profileOf?_eq_some,
    ← optIn?_temp]
  rw [show optBetween target 1 65535 ↔ optBetween target 1 (65535 : Nat) from Iff.rfl, ← optIn?_minutes,
    show optBetween limit 1 10080 ↔ optBetween limit 1 (10080 : Nat) from Iff.rfl, ← optIn?_minutes]
  unfold stageEntryOf?
  split
  · next h1 h2 h3 h4 h5 h6 h7 h8 =>
    rw [h1, h2, h3, h4, h5, h6, h7, h8]
    cases e
    simp
  · next other =>
    exact iff_of_false nofun fun ⟨h1, h2, h3, h4, h5, h6, h7, h8⟩ => other _ _ _ _ _ _ _ _ h1 h2 h3 h4 h5 h6 h7 h8

/-- What STAGE STEP asks of its arguments but the index (R118). -/
abbrev stepLegal (k se su : Nat) (target : OptArg) (mode p : Nat) (limit temp : OptArg) : Prop :=
  k ≤ 2 ∧ se ≤ 1 ∧ su ≤ 1 ∧ mode ≤ 1 ∧ p ≤ 1 ∧ optBetween target 1 65535 ∧ optBetween limit 1 10080 ∧
    optBetween temp (-160) 500

/-- Arguments spell an entry exactly when each is in its range. -/
theorem stageEntryOf?_isSome (k se su : Nat) (target : OptArg) (mode p : Nat) (limit temp : OptArg) :
    (∃ e, stageEntryOf? k se su target mode p limit temp = some e) ↔ stepLegal k se su target mode p limit temp := by
  constructor
  · rintro ⟨e, h⟩
    obtain ⟨rfl, ⟨hse, -⟩, ⟨hsu, -⟩, ⟨htarget, -⟩, rfl, rfl, ⟨hlimit, -⟩, htemp, -⟩ := (stageEntryOf?_eq_some ..).1 h
    have kind : e.kind.code ≤ 2 := by cases e.kind <;> decide
    have mode : e.mode.code ≤ 1 := by cases e.mode <;> decide
    exact ⟨kind, hse, hsu, mode, by omega, htarget, hlimit, htemp⟩
  · rintro ⟨hk, hse, hsu, hm, hp, htarget, hlimit, htemp⟩
    obtain ⟨kind, rfl⟩ : ∃ kind : StageKind, kind.code = k := by
      interval_cases k
      exacts [⟨.soak, rfl⟩, ⟨.exercise, rfl⟩, ⟨.check, rfl⟩]
    obtain ⟨credit, rfl⟩ : ∃ credit : CreditMode, credit.code = mode := by
      interval_cases mode
      exacts [⟨.always, rfl⟩, ⟨.activeOnly, rfl⟩]
    have minutes {o : OptArg} {hi : Int} (h : optBetween o 1 hi) :
        ((optGiven o).map Int.toNat).map (fun n : Nat => (n : Int)) = optGiven o := by
      rw [optGiven]
      split
      · next present =>
        rw [Option.map_some, Option.map_some, Int.toNat_of_nonneg (by omega)]
      · rfl
    exact ⟨⟨kind, decide (se = 1), decide (su = 1), (optGiven target).map Int.toNat, credit, ⟨p, by omega⟩,
      (optGiven limit).map Int.toNat, optGiven temp⟩, (stageEntryOf?_eq_some ..).2 ⟨rfl, ⟨hse, decide_eq_true_iff⟩,
      ⟨hsu, decide_eq_true_iff⟩, ⟨htarget, minutes htarget⟩, rfl, rfl, ⟨hlimit, minutes hlimit⟩, htemp, rfl⟩⟩

/-! ### What each request writes (R117 to R119) -/

theorem serveStageHeader_legal (id rev : Nat) (tag : List Byte) (credit : Nat) (s : State)
    (h : 1 ≤ id ∧ id ≤ 65535 ∧ 1 ≤ rev ∧ rev ≤ 255 ∧ 1 ≤ tag.length ∧ tag.length ≤ 16 ∧
      (∀ b ∈ tag, 0x20 ≤ b.toNat ∧ b.toNat ≤ 0x7E) ∧ credit ≤ 65535) :
    serveStageHeader id rev tag credit s = ({ s with rst := { s.rst with
      staging := { Staging.empty with header := some ⟨id, rev, tag, credit⟩ } } }, .done []) := by
  obtain ⟨hid, hid', hrev, hrev', short, long, hchars, hcredit⟩ := h
  simp only [serveStageHeader, natIn?_in ⟨hid, hid'⟩, natIn?_in ⟨hrev, hrev'⟩, natIn?_in ⟨Nat.zero_le _, hcredit⟩,
    stringIn?_eq, if_pos (⟨short, long, hchars⟩ : _ ∧ _ ∧ _)]

theorem serveStageHeader_range (id rev : Nat) (tag : List Byte) (credit : Nat) (s : State)
    (h : ¬ (1 ≤ id ∧ id ≤ 65535 ∧ 1 ≤ rev ∧ rev ≤ 255 ∧ 1 ≤ tag.length ∧ tag.length ≤ 16 ∧
      (∀ b ∈ tag, 0x20 ≤ b.toNat ∧ b.toNat ≤ 0x7E) ∧ credit ≤ 65535)) :
    serveStageHeader id rev tag credit s = (s, .refuse .range) := by
  unfold serveStageHeader
  split
  · next hi hr ht hm =>
    rw [stringIn?_eq] at ht
    obtain ⟨⟨short, long, chars⟩, -⟩ := Option.ite_none_right_eq_some.1 ht
    obtain ⟨-, hid, hid'⟩ := natIn?_some hi
    obtain ⟨-, hrev, hrev'⟩ := natIn?_some hr
    obtain ⟨-, -, hcredit⟩ := natIn?_some hm
    exact absurd ⟨hid, hid', hrev, hrev', short, long, chars, hcredit⟩ h
  · rfl

theorem serveStageStep_legal (i : Fin 16) {k se su : Nat} {target : OptArg} {mode p : Nat} {limit temp : OptArg}
    {e : StageEntry} (s : State) (h : stageEntryOf? k se su target mode p limit temp = some e) :
    serveStageStep i.val k se su target mode p limit temp s = ({ s with rst := { s.rst with
      staging := { s.rst.staging with steps := tset s.rst.staging.steps i (some e) } } }, .done []) := by
  simp only [serveStageStep, stepOf?_val, h]

theorem serveStageStep_range (n k se su : Nat) (target : OptArg) (mode p : Nat) (limit temp : OptArg) (s : State)
    (h : ¬ (n ≤ 15 ∧ stepLegal k se su target mode p limit temp)) :
    serveStageStep n k se su target mode p limit temp s = (s, .refuse .range) := by
  unfold serveStageStep
  split
  · next i e hi he =>
    have index : n ≤ 15 := by
      by_contra far
      rw [stepOf?_none (by omega)] at hi
      cases hi
    exact absurd ⟨index, (stageEntryOf?_isSome ..).1 ⟨e, he⟩⟩ h
  · rfl

theorem serveStageLimits_legal (m : MeasureId) (a b r q : Nat) (s : State)
    (h : a ≤ 4294967295 ∧ b ≤ 4294967295 ∧ r ≤ 4294967295 ∧ q ≤ 1) :
    serveStageLimits m.val a b r q s = ({ s with rst := { s.rst with staging := { s.rst.staging with
      limits := tset s.rst.staging.limits m (some ⟨a, b, r, decide (q = 1)⟩) } } }, .done []) := by
  obtain ⟨ha, hb, hr, hq⟩ := h
  have required : boolOf? q = some (decide (q = 1)) := (boolOf?_eq_some _ _).2 ⟨hq, decide_eq_true_iff⟩
  simp only [serveStageLimits, measureOf?_val, natIn?_in ⟨Nat.zero_le a, ha⟩, natIn?_in ⟨Nat.zero_le b, hb⟩,
    natIn?_in ⟨Nat.zero_le r, hr⟩, required]

theorem serveStageLimits_range (n a b r q : Nat) (s : State)
    (h : ¬ (n ≤ 7 ∧ a ≤ 4294967295 ∧ b ≤ 4294967295 ∧ r ≤ 4294967295 ∧ q ≤ 1)) :
    serveStageLimits n a b r q s = (s, .refuse .range) := by
  unfold serveStageLimits
  split
  · next hm ha hb hr hq =>
    have index : n ≤ 7 := by
      by_contra far
      rw [measureOf?_none (by omega)] at hm
      cases hm
    obtain ⟨-, -, ha⟩ := natIn?_some ha
    obtain ⟨-, -, hb⟩ := natIn?_some hb
    obtain ⟨-, -, hr⟩ := natIn?_some hr
    obtain ⟨hq, -⟩ := (boolOf?_eq_some _ _).1 hq
    exact absurd ⟨index, ha, hb, hr, hq⟩ h
  · rfl

/-! ### The statement -/

/-- A store request ready on the line link that is refused clears the lock override flag (R116). -/
theorem exec_store_refused (c : Instr) (serve : State → State × Reply) (s : State) (k : RespCode)
    (hk : k.success = false) (hl : requestLink c = some .line) (hc : service c = storeRequest serve)
    (h : s.Ready .line c) (hs : serve s = (s, .refuse k)) : exec c s = .next (s.clearOverride.answered .line c k []) := by
  rw [exec_request c .line s hl, hc, s.storeRequest_refused c serve k hk h hs]

/-- A store request ready on the line link that is answered with a success code. -/
theorem exec_store_now (c : Instr) (serve : State → State × Reply) (s t : State) (k : RespCode) (p : List Byte)
    (hk : k.success = true) (hl : requestLink c = some .line) (hc : service c = storeRequest serve)
    (h : s.Ready .line c) (hs : serve s = (t, .now k p)) (ht : t.lineLink.output = s.lineLink.output) :
    exec c s = .next (t.answered .line c k p) := by
  rw [exec_request c .line s hl, hc, s.storeRequest_now t c serve k p hk h hs ht]

/-- Settles O46: each request by its ranges, and the recipe a buffer describes. -/
theorem stagingBuildsARecipe : Obligations.StagingBuildsARecipe := by
  refine ⟨fun s => ?_, fun t r => ?_⟩
  · intro written ranged
    refine ⟨fun id rev tag credit ready => ?_, fun n k se su target mode p limit temp ready => ?_,
      fun n a b r q ready => ?_⟩
    · exact ⟨fun legal => exec_store_now _ _ s _ .done [] rfl rfl rfl ready (serveStageHeader_legal _ _ _ _ s legal) rfl,
        fun illegal => exec_store_refused _ _ s .range rfl rfl rfl ready (serveStageHeader_range _ _ _ _ s illegal)⟩
    · refine ⟨fun illegal => exec_store_refused _ _ s .range rfl rfl rfl ready
        (serveStageStep_range _ _ _ _ _ _ _ _ _ s illegal), ?_⟩
      rintro ⟨-, legal⟩
      obtain ⟨e, he⟩ := (stageEntryOf?_isSome ..).2 legal
      obtain ⟨kind, ⟨-, sensitive⟩, ⟨-, suspendable⟩, ⟨-, given⟩, credit, profile, ⟨-, limited⟩, -, maximum⟩ :=
        (stageEntryOf?_eq_some ..).1 he
      refine ⟨e, kind, sensitive, suspendable, ?_, credit, profile, ?_, maximum, ?_⟩
      · refine Eq.trans ?_ given
        cases e.target <;> rfl
      · refine Eq.trans ?_ limited
        cases e.limit <;> rfl
      · rintro i rfl
        exact exec_store_now _ _ s _ .done [] rfl rfl rfl ready (serveStageStep_legal i s he) rfl
    · refine ⟨fun illegal => exec_store_refused _ _ s .range rfl rfl rfl ready
        (serveStageLimits_range _ _ _ _ _ s illegal), ?_⟩
      rintro ⟨-, legal⟩ m rfl
      exact exec_store_now _ _ s _ .done [] rfl rfl rfl ready (serveStageLimits_legal m _ _ _ _ s legal) rfl
  · rw [Staging.recipe?_eq_some, contiguous_table, limitsOrdered_iff]
    simp only [StageEntry.consistent_iff]
    constructor
    · rintro ⟨header, ⟨length, places⟩, filled, consistent, ordered, same⟩
      exact ⟨header, same, List.length_pos_of_ne_nil filled, length, places, consistent, same ▸ ordered⟩
    · rintro ⟨header, same, filled, length, places, consistent, ordered⟩
      exact ⟨header, ⟨length, places⟩, List.ne_nil_of_length_pos filled, consistent, same ▸ ordered, same⟩

end Sys2Proof.Machine
end

section
/-! What the checks of the store say (R120, R121, R124), and how an operation begins (R114, R145). -/

namespace Sys2Proof.Machine

theorem Rst.idle_iff (q : Rst) : q.idle = true ↔ q.running = none ∧ q.suspended = none := by
  rw [Rst.idle, Bool.and_eq_true, Option.isNone_iff_eq_none, Option.isNone_iff_eq_none]

/-- Something runs or is suspended. -/
theorem Rst.idle_eq_false_iff (q : Rst) : q.idle = false ↔ ¬ (q.running = none ∧ q.suspended = none) := by
  rw [← q.idle_iff, Bool.not_eq_true]

theorem Rst.not_idle_eq_false {q : Rst} (h : q.running = none ∧ q.suspended = none) : ¬ q.idle = false := fun busy =>
  q.idle_eq_false_iff.1 busy h

/-- PROGRAM runs with nothing running, alone or nested over a suspended ERASE (R120). -/
theorem Rst.programNests?_eq_some (q : Rst) (n : Bool) : q.programNests? = some n ↔
    q.running = none ∧ (n = false ∧ q.suspended = none ∨ n = true ∧ ∃ c, q.suspended = some (.erase c)) := by
  unfold Rst.programNests?
  split
  · next hr hs => rw [hr, hs]; simp [eq_comm]
  · next c hr hs => rw [hr, hs]; simp [eq_comm]
  · next alone nesting =>
    refine iff_of_false nofun ?_
    rintro ⟨hr, ⟨-, hs⟩ | ⟨-, c, hs⟩⟩
    · exact alone hr hs
    · exact nesting c hr hs

/-- A WRITTEN block holds the id and revision (R121). -/
theorem Rst.holdsRecipe_iff (q : Rst) (id revision : Nat) : q.holdsRecipe id revision = true ↔
    ∃ b r, (tget q.blocks b).written? = some r ∧ r.header.id = id ∧ r.header.revision = revision := by
  rw [Rst.holdsRecipe, List.any_eq_true]
  constructor
  · rintro ⟨b, -, hb⟩
    split at hb
    · next r hr =>
      obtain ⟨hid, hrev⟩ := Bool.and_eq_true_iff.1 hb
      exact ⟨b, r, hr, eq_of_beq hid, eq_of_beq hrev⟩
    · cases hb
  · rintro ⟨b, r, hr, rfl, rfl⟩
    exact ⟨b, mem_allBlocks b, by rw [hr]; exact Bool.and_eq_true_iff.2 ⟨beq_self_eq_true _, beq_self_eq_true _⟩⟩

/-- Some block is referenced. -/
theorem Rst.referenced_iff (q : Rst) : q.referenced = true ↔ ∃ b, 0 < (tget q.blocks b).refs := by
  rw [Rst.referenced, List.any_eq_true]
  exact ⟨fun ⟨b, _, hb⟩ => ⟨b, of_decide_eq_true hb⟩, fun ⟨b, hb⟩ => ⟨b, mem_allBlocks b, decide_eq_true hb⟩⟩

/-- A block made INVALID and unlocked, and reported to PCU when it leaves WRITTEN (R114, R145). -/
theorem State.invalidate_eq (s : State) (b : BlockNo) : s.invalidate b = { s with
    rst := { s.rst with blocks := tset s.rst.blocks b { s.block b with state := .invalid, locked := false, record := none } }
    pcu := if (s.block b).state = .written then s.pcu.blockLeft b else s.pcu } := by
  unfold State.invalidate
  dsimp only
  split <;> rfl

/-! ### PROGRAM, ERASE, BLANK CHECK, LOCK and CLEAR (R120 to R125) -/

/-- A store operation that first makes its block INVALID begins. -/
theorem exec_store_begins (c : Instr) (serve : State → State × Reply) (s : State) (b : BlockNo) (w : Work) (n : Bool)
    (hl : requestLink c = some .line) (hc : service c = storeRequest serve) (h : s.Ready .line c)
    (hs : serve s = ((s.invalidate b).setRunning (some (w.begin n)), .now .accepted [])) :
    exec c s = .next ({ s with
      rst := { s.rst with
        blocks := tset s.rst.blocks b { s.block b with state := .invalid, locked := false, record := none }
        running := some ⟨w, n, false, false⟩ }
      pcu := if (s.block b).state = BlockState.written ∧ s.pcu.unit = UnitState.active then
        { s.pcu with channels := tof fun k =>
            if (tget s.pcu.channels k).block = b then { tget s.pcu.channels k with enable := false }
            else tget s.pcu.channels k }
        else s.pcu }.answered .line c .accepted []) := by
  rw [ite_and]
  refine exec_store_now c serve s _ .accepted [] rfl hl hc h (hs.trans ?_) rfl
  rw [s.invalidate_eq]
  rfl

/-- PROGRAM of a block, after its number is read and the busy check is passed. -/
theorem serveProgram_val (s : State) (b : BlockNo)
    (nests : s.rst.running = none ∧ (s.rst.suspended = none ∨ ∃ c, s.rst.suspended = some (.erase c))) :
    serveProgram b.val s =
      if (s.block b).state ≠ .blank then (s, .refuse .wrongState)
      else match s.rst.staging.recipe? with
        | none => (s, .refuse .invalidRecipe)
        | some r =>
          if s.rst.holdsRecipe r.header.id r.header.revision then (s, .refuse .duplicate)
          else if s.rst.error.isSome then (s, .refuse .storeError)
          else ((s.invalidate b).setRunning (some ((Work.program b r).begin s.rst.suspended.isSome)), .now .accepted []) := by
  have passes : s.rst.programNests? = some s.rst.suspended.isSome := by
    obtain ⟨running, suspended | ⟨c, suspended⟩⟩ := nests
    · rw [Rst.programNests?_eq_some, suspended]
      exact ⟨running, .inl ⟨rfl, rfl⟩⟩
    · rw [Rst.programNests?_eq_some, suspended]
      exact ⟨running, .inr ⟨rfl, c, rfl⟩⟩
  rw [serveProgram, blockOf?_val, passes] <;> rfl

theorem serveProgram_busy (s : State) (b : BlockNo) (idle : ¬ (s.rst.running = none ∧ s.rst.suspended = none))
    (nests : ¬ (s.rst.running = none ∧ ∃ c, s.rst.suspended = some (.erase c))) :
    serveProgram b.val s = (s, .refuse .busy) := by
  have refused : s.rst.programNests? = none := Option.eq_none_iff_forall_ne_some.2 fun n passes => by
    obtain ⟨running, ⟨-, suspended⟩ | ⟨-, suspended⟩⟩ := (s.rst.programNests?_eq_some n).1 passes
    · exact idle ⟨running, suspended⟩
    · exact nests ⟨running, suspended⟩
  rw [serveProgram, blockOf?_val, refused]

/-- ERASE, BLANK CHECK and LOCK of a block, after its number is read. -/
theorem serveErase_val (s : State) (b : BlockNo) : serveErase b.val s =
    if s.rst.idle = false then (s, .refuse .busy)
    else if (s.block b).locked ∧ s.rst.lockOverride = false then (s, .refuse .locked)
    else if 0 < (s.block b).refs then (s, .refuse .inUse)
    else if s.rst.error.isSome then (s, .refuse .storeError)
    else ((s.invalidate b).setRunning (some ((Work.erase b).begin false)), .now .accepted []) := by
  rw [serveErase, blockOf?_val]

theorem serveBlankCheck_val (s : State) (b : BlockNo) : serveBlankCheck b.val s =
    if s.rst.idle = false then (s, .refuse .busy)
    else if (s.block b).state = .written then (s, .refuse .wrongState)
    else if s.rst.error.isSome then (s, .refuse .storeError)
    else ((s.invalidate b).setRunning (some ((Work.blankCheck b (s.block b).state).begin false)), .now .accepted []) := by
  rw [serveBlankCheck, blockOf?_val]

theorem serveLock_val (s : State) (b : BlockNo) : serveLock b.val s =
    if s.rst.idle = false then (s, .refuse .busy)
    else if (s.block b).state ≠ .written ∨ (s.block b).locked then (s, .refuse .wrongState)
    else (s.setRunning (some ((Work.lock b).begin false)), .now .accepted []) := by
  rw [serveLock, blockOf?_val]

/-- Settles O48: each request by its checks, in their order. -/
theorem storeOperationsBegin : Obligations.StoreOperationsBegin := by
  intro s refused off begun idle
  have answers (c : Instr) (serve : State → State × Reply) (k : RespCode) (hk : k.success = false)
      (hl : requestLink c = some .line) (hc : service c = storeRequest serve) (ready : s.Ready .line c)
      (hs : serve s = (s, .refuse k)) : refused c k := exec_store_refused c serve s k hk hl hc ready hs
  have busy (rest : ¬ idle) : s.rst.idle = false := s.rst.idle_eq_false_iff.2 rest
  have free (rest : idle) : ¬ s.rst.idle = false := Rst.not_idle_eq_false rest
  refine ⟨fun n ready => ⟨fun big => ?_, ?_⟩, fun n ready => ⟨fun big => ?_, ?_⟩, fun n ready => ⟨fun big => ?_, ?_⟩,
    fun n ready => ⟨fun big => ?_, ?_⟩, fun ready => ⟨fun rest => ?_, fun rest referenced => ?_,
      fun rest unreferenced error => ?_, fun rest unreferenced clean => ?_⟩⟩
  · exact answers _ (serveProgram n) .range rfl rfl rfl ready (by rw [serveProgram, blockOf?_none big])
  · rintro b rfl nests held
    have either (h : idle ∨ nests) :
        s.rst.running = none ∧ (s.rst.suspended = none ∨ ∃ c, s.rst.suspended = some (.erase c)) := by
      rcases h with ⟨running, suspended⟩ | ⟨running, suspended⟩
      · exact ⟨running, .inl suspended⟩
      · exact ⟨running, .inr suspended⟩
    refine ⟨fun rest alone => ?_, fun h filled => ?_, fun h blank unstaged => ?_, fun r h blank staged =>
      ⟨fun duplicate => ?_, fun fresh error => ?_, fun fresh clean => ?_⟩⟩
    · exact answers _ (serveProgram b.val) .busy rfl rfl rfl ready (serveProgram_busy s b rest alone)
    all_goals have served := serveProgram_val s b (either h)
    · exact answers _ (serveProgram b.val) .wrongState rfl rfl rfl ready (served.trans (if_pos filled))
    all_goals rw [if_neg (not_not.2 blank)] at served
    · exact answers _ (serveProgram b.val) .invalidRecipe rfl rfl rfl ready (served.trans (by rw [unstaged]))
    all_goals simp only [staged] at served
    · exact answers _ (serveProgram b.val) .duplicate rfl rfl rfl ready
        (served.trans (if_pos ((s.rst.holdsRecipe_iff _ _).2 duplicate)))
    all_goals rw [if_neg (mt (s.rst.holdsRecipe_iff _ _).1 fresh)] at served
    · exact answers _ (serveProgram b.val) .storeError rfl rfl rfl ready
        (served.trans (if_pos (Option.isSome_iff_ne_none.2 error)))
    · exact exec_store_begins _ (serveProgram b.val) s b _ _ rfl rfl ready
        (served.trans (if_neg (Option.not_isSome_iff_eq_none.2 clean)))
  · exact answers _ (serveErase n) .range rfl rfl rfl ready (by rw [serveErase, blockOf?_none big])
  · rintro b rfl locked
    refine ⟨fun rest => ?_, fun rest forbidden => ?_, fun rest allowed used => ?_, fun rest allowed unused error => ?_,
      fun rest allowed unused clean => ?_⟩
    all_goals have served := serveErase_val s b
    · exact answers _ (serveErase b.val) .busy rfl rfl rfl ready (served.trans (if_pos (busy rest)))
    all_goals replace served := served.trans (if_neg (free rest))
    · exact answers _ (serveErase b.val) .locked rfl rfl rfl ready (served.trans (if_pos forbidden))
    all_goals replace served := served.trans (if_neg allowed)
    · exact answers _ (serveErase b.val) .inUse rfl rfl rfl ready (served.trans (if_pos used))
    all_goals replace served := served.trans (if_neg (by omega))
    · exact answers _ (serveErase b.val) .storeError rfl rfl rfl ready
        (served.trans (if_pos (Option.isSome_iff_ne_none.2 error)))
    · exact exec_store_begins _ (serveErase b.val) s b _ _ rfl rfl ready
        (served.trans (if_neg (Option.not_isSome_iff_eq_none.2 clean)))
  · exact answers _ (serveBlankCheck n) .range rfl rfl rfl ready (by rw [serveBlankCheck, blockOf?_none big])
  · rintro b rfl
    refine ⟨fun rest => ?_, fun rest written => ?_, fun rest unwritten error => ?_, fun rest unwritten clean => ?_⟩
    all_goals have served := serveBlankCheck_val s b
    · exact answers _ (serveBlankCheck b.val) .busy rfl rfl rfl ready (served.trans (if_pos (busy rest)))
    all_goals replace served := served.trans (if_neg (free rest))
    · exact answers _ (serveBlankCheck b.val) .wrongState rfl rfl rfl ready (served.trans (if_pos written))
    all_goals replace served := served.trans (if_neg unwritten)
    · exact answers _ (serveBlankCheck b.val) .storeError rfl rfl rfl ready
        (served.trans (if_pos (Option.isSome_iff_ne_none.2 error)))
    · exact exec_store_begins _ (serveBlankCheck b.val) s b _ _ rfl rfl ready
        (served.trans (if_neg (Option.not_isSome_iff_eq_none.2 clean)))
  · exact answers _ (serveLock n) .range rfl rfl rfl ready (by rw [serveLock, blockOf?_none big])
  · rintro b rfl lockable
    refine ⟨fun rest => ?_, fun rest refuses => ?_, fun rest ⟨written, unlocked⟩ => ?_⟩
    all_goals have served := serveLock_val s b
    · exact answers _ (serveLock b.val) .busy rfl rfl rfl ready (served.trans (if_pos (busy rest)))
    all_goals replace served := served.trans (if_neg (free rest))
    · refine answers _ (serveLock b.val) .wrongState rfl rfl rfl ready (served.trans (if_pos ?_))
      by_contra both
      obtain ⟨written, unlocked⟩ := not_or.1 both
      exact refuses ⟨not_not.1 written, Bool.eq_false_iff.2 unlocked⟩
    · refine exec_store_now _ (serveLock b.val) s _ .accepted [] rfl rfl rfl ready (served.trans (if_neg ?_)) rfl
      rintro (other | locked)
      · exact other written
      · rw [unlocked] at locked
        cases locked
  · exact answers _ serveStoreClear .busy rfl rfl rfl ready (if_pos (busy rest))
  all_goals have served : serveStoreClear s = _ := if_neg (free rest)
  · exact answers _ serveStoreClear .inUse rfl rfl rfl ready (served.trans (if_pos (s.rst.referenced_iff.2 referenced)))
  all_goals replace served := served.trans (if_neg (mt s.rst.referenced_iff.1 unreferenced))
  · exact answers _ serveStoreClear .storeError rfl rfl rfl ready
      (served.trans (if_pos (Option.isSome_iff_ne_none.2 error)))
  · exact exec_store_now _ serveStoreClear s _ .accepted [] rfl rfl rfl ready
      (served.trans (if_neg (Option.not_isSome_iff_eq_none.2 clean))) rfl

end Sys2Proof.Machine
end

section
/-! The store's flags and status (R115, R116, R126, R133). -/

namespace Sys2Proof.Machine

/-- Settles O47: each request by its operand and the mode. -/
theorem storeFlagsAreSet : Obligations.StoreFlagsAreSet := by
  intro s answers cleared
  refine ⟨fun ready => ⟨fun mode => ?_, fun mode => ?_⟩, fun m ready => ⟨fun big => ?_, ?_, ?_, ?_⟩,
    fun p ready => ⟨fun big => ?_, fun small => ?_⟩, fun ready =>
      exec_store_now _ serveClearStoreStatus s _ .done [] rfl rfl rfl ready rfl rfl⟩
  · exact exec_store_now _ _ s _ .done [] rfl rfl rfl ready (by rw [serveLockOverride, mode]; rfl) rfl
  · exact exec_store_refused _ _ s .modeProtected rfl rfl rfl ready (by rw [serveLockOverride, mode])
  · obtain ⟨k, rfl⟩ := Nat.exists_eq_add_of_le' big
    exact exec_store_refused _ (serveSetStoreMode (k + 2)) s .range rfl rfl rfl ready rfl
  · rintro rfl
    exact exec_store_refused _ (serveSetStoreMode 0) s .modeProtected rfl rfl rfl ready rfl
  · rintro rfl busy
    exact exec_store_refused _ _ s .busy rfl rfl rfl ready
      (if_pos (s.rst.idle_eq_false_iff.2 fun ⟨running, suspended⟩ => busy.elim (· running) (· suspended)))
  · rintro rfl running suspended
    exact exec_store_now _ _ s _ .done [] rfl rfl rfl ready
      (if_neg (by rw [s.rst.idle_iff.2 ⟨running, suspended⟩]; exact Bool.noConfusion)) rfl
  · obtain ⟨k, rfl⟩ := Nat.exists_eq_add_of_le' big
    exact exec_store_refused _ (serveSetFetchPriority (k + 2)) s .range rfl rfl rfl ready rfl
  · have value : boolOf? p = some (decide (p = 1)) := (boolOf?_eq_some _ _).2 ⟨small, decide_eq_true_iff⟩
    exact exec_store_now _ _ s _ .done [] rfl rfl rfl ready (by rw [serveSetFetchPriority, value]; rfl) rfl

end Sys2Proof.Machine
end

section
/-! How store operations end, are suspended and stop (R122 to R130). -/

namespace Sys2Proof.Machine

/-- The first failure not yet cleared is kept (R126). -/
theorem State.recordError_eq (s : State) (k : StoreErrorKind) (b : BlockNo) : s.recordError k b =
    { s with rst := { s.rst with error := if s.rst.error = none then some (k, b) else s.rst.error } } := by
  unfold State.recordError
  cases s.rst.error <;> rfl

/-- Settles O49: each completion event over the operation that runs. -/
theorem storeOperationsEnd : Obligations.StoreOperationsEnd := by
  intro s n x y unforced failed gone put
  have fails (k : StoreErrorKind) (b : BlockNo) (v : State) : v.recordError k b = failed v k b := v.recordError_eq k b
  refine ⟨fun b r run => ⟨?_, ?_⟩, fun b run => ⟨?_, ?_⟩, fun b prior run => ⟨?_, ?_⟩, fun b run => ?_, fun b f run => ?_,
    fun b k f ok run => ?_⟩
  · change execProgramCompletion true s = _
    rw [execProgramCompletion, run]
    rfl
  · change execProgramCompletion false s = _
    rw [execProgramCompletion, run, ← fails]
    rfl
  · change execEraseCompletion true s = _
    rw [execEraseCompletion, run]
    rfl
  · change execEraseCompletion false s = _
    rw [execEraseCompletion, run, ← fails]
    rfl
  · change execBlankCheckCompletion true s = _
    rw [execBlankCheckCompletion, run]
    rfl
  · change execBlankCheckCompletion false s = _
    rw [execBlankCheckCompletion, run, ← fails]
    rfl
  · change execLockCompletion s = _
    rw [execLockCompletion, run]
    rfl
  · change execClearBlockErasure s = _
    rw [execClearBlockErasure, run]
    dsimp only
    rw [blockOf?_val]
    rfl
  · intro v anyFailed
    have done : exec (.clearBlockCompletion ok) s = .next (s.clearBlockEnds ⟨.clear (some b) k f, n, x, y⟩ b f ok) := by
      change execClearBlockCompletion ok s = _
      rw [execClearBlockCompletion, run]
    have left : (if ok then s.setBlock b { s.block b with state := .blank } else s.recordError .eraseFailed b) = v := by
      rw [fails]
      rfl
    rw [done, State.clearBlockEnds]
    dsimp only
    rw [left]
    exact ⟨fun goesOn => congrArg _ (if_neg goesOn), fun last => congrArg _ (if_pos last)⟩

end Sys2Proof.Machine
end

section
/-! How store operations are suspended, resumed and stopped (R127, R129, R130). -/

namespace Sys2Proof.Machine

/-- SUSPEND asks an operation that can be suspended, is not nested, stands over no suspended one and is not asked yet (R127). -/
theorem serveSuspend_some {s : State} {o : Running} (run : s.rst.running = some o) : serveSuspend s =
    if o.work.suspended?.isNone ∨ o.nested ∨ s.rst.suspended.isSome ∨ o.askedExplicit then (s, .refuse .wrongState)
    else (s.setRunning (some { o with askedExplicit := true }), .now .accepted []) := by
  rw [serveSuspend, run]

/-- SUSPENSION_EVENT of a running operation, by what asked (R127). -/
theorem exec_suspensionEvent_some {s : State} {o : Running} (run : s.rst.running = some o) : exec .suspensionEvent s =
    if o.askedFetch then .next (s.answerWaiting.suspendOrGoOn o).clearOverride
    else if o.askedExplicit then .next (s.suspendOrGoOn o).clearOverride
    else .next s := by
  change execSuspensionEvent s = _
  rw [execSuspensionEvent, run]

theorem State.suspendOrGoOn_suspends (s : State) {o : Running} {p : Suspended} (asked : o.askedExplicit = true)
    (hp : o.work.suspended? = some p) : s.suspendOrGoOn o =
      { s with rst := { s.rst with running := none, suspended := some p } }.post .storeDone p.block.val := by
  rw [State.suspendOrGoOn, asked, hp]

theorem State.suspendOrGoOn_goes_on (s : State) {o : Running} (unasked : o.askedExplicit = false) :
    s.suspendOrGoOn o = s.setRunning (some { o with askedFetch := false }) := by
  obtain ⟨w, n, x, y⟩ := o
  cases unasked
  rfl

theorem Suspended.suspended?_work (p : Suspended) : p.work.suspended? = some p := by cases p <;> rfl

/-- A waiting fetch that is served leaves what is suspended. -/
theorem State.answerWaiting_suspended (s : State) : s.answerWaiting.rst.suspended = s.rst.suspended := by
  have counted (f : Fetch) : (s.answerFetch f).rst.suspended = s.rst.suspended := by
    unfold State.answerFetch State.countRef
    dsimp only
    split <;> rfl
  unfold State.answerWaiting
  split
  · exact counted _
  · rfl

theorem State.stopRunning_suspended (s : State) : s.stopRunning.rst.suspended = s.rst.suspended := by
  unfold State.stopRunning
  split
  · rfl
  · next o _ =>
    change (s.endRunning o).rst.suspended = _
    unfold State.endRunning
    dsimp only
    split
    · exact State.answerWaiting_suspended _
    · rfl

/-- Settles O50: SUSPEND, the suspension event by what asked, RESUME, and STOP in its two parts. -/
theorem storeOperationsSuspendAndStop : Obligations.StoreOperationsSuspendAndStop := by
  intro s unforced answers run half
  have half_eq (w : Work) : half w = w.suspended? := by cases w <;> rfl
  refine ⟨fun ready => ⟨fun refuses => ?_, fun o running can alone free unasked => ?_⟩, fun o running => ?_, fun idle => ?_,
    fun ready => ⟨fun none_suspended => ?_, fun p suspended => ⟨fun busy => ?_, fun idle => ?_⟩⟩,
    fun ready => ⟨fun running suspended => ?_, fun either => ?_⟩⟩
  · refine exec_store_refused _ serveSuspend s .wrongState rfl rfl rfl ready ?_
    cases running : s.rst.running with
    | none => rw [serveSuspend, running]
    | some o =>
      rw [serveSuspend_some running]
      refine if_pos ?_
      have reasons := refuses o running
      rwa [half_eq, ← Option.isNone_iff_eq_none, ← Option.isSome_iff_ne_none] at reasons
  · refine exec_store_now _ serveSuspend s _ .accepted [] rfl rfl rfl ready ((serveSuspend_some running).trans (if_neg ?_)) rfl
    rw [half_eq] at can
    rw [alone, free, unasked, Option.isNone_iff_eq_none]
    rintro (cannot | nested | over_other | asked)
    · exact can cannot
    · cases nested
    · cases over_other
    · cases asked
  · intro served
    refine ⟨fun explicit fetch => ?_, fun p explicit can => ?_, fun explicit fetch => ?_⟩
    · rw [exec_suspensionEvent_some running, fetch, explicit]
      rfl
    · rw [half_eq] at can
      rw [exec_suspensionEvent_some running]
      cases fetch : o.askedFetch with
      | true =>
        have after : served = s.answerWaiting := if_pos fetch
        rw [after, if_pos rfl, State.suspendOrGoOn_suspends _ explicit can]
        rfl
      | false =>
        have after : served = s := if_neg (by rw [fetch]; exact Bool.false_ne_true)
        rw [after, if_neg Bool.false_ne_true, if_pos explicit, State.suspendOrGoOn_suspends _ explicit can]
        rfl
    · have after : served = s.answerWaiting := if_pos fetch
      rw [after, exec_suspensionEvent_some running, if_pos fetch, State.suspendOrGoOn_goes_on _ explicit]
      rfl
  · change execSuspensionEvent s = _
    rw [execSuspensionEvent, idle]
  · exact exec_store_refused _ serveResume s .wrongState rfl rfl rfl ready (by rw [serveResume, none_suspended])
  · refine exec_store_refused _ serveResume s .busy rfl rfl rfl ready ?_
    rw [serveResume, suspended]
    exact if_pos (Option.isSome_iff_ne_none.2 busy)
  · refine ⟨p.work, (half_eq _).trans p.suspended?_work, exec_store_now _ serveResume s _ .accepted [] rfl rfl rfl ready ?_ rfl⟩
    rw [serveResume, suspended]
    exact if_neg (Option.not_isSome_iff_eq_none.2 idle)
  · exact exec_store_refused _ serveStop s .wrongState rfl rfl rfl ready (if_pos (s.rst.idle_iff.2 ⟨running, suspended⟩))
  · intro v w
    have first : s.stopRunning = v := by
      unfold State.stopRunning
      dsimp only [v]
      cases s.rst.running <;> rfl
    have second : s.stopRunning.stopSuspended = w := by
      unfold State.stopSuspended
      rw [s.stopRunning_suspended, first]
      dsimp only [w]
      cases s.rst.suspended <;> rfl
    rw [← second]
    have not_idle : ¬ s.rst.idle = true := fun idle => by
      obtain ⟨running, suspended⟩ := s.rst.idle_iff.1 idle
      exact either.elim (· running) (· suspended)
    exact exec_store_now _ serveStop s _ .done [] rfl rfl rfl ready (if_neg not_idle)
      ((KeepsHeld.refl s).stopRunning.stopSuspended.clearOverride.output .line)

end Sys2Proof.Machine
end

section
/-! Fetches as RST serves them (R131, R132, R134). -/

namespace Sys2Proof.Machine

/-! ### The newest block of an id (R134) -/

/-- The block is WRITTEN with this recipe, and the recipe has this id. -/
def Rst.offers (q : Rst) (id : Nat) (d : BlockNo × Recipe) : Prop :=
  (tget q.blocks d.1).written? = some d.2 ∧ d.2.header.id = id

/-- A block compared with the best one before it. -/
def Rst.takeNewer (q : Rst) (id : Nat) (best : Option (BlockNo × Recipe)) (b : BlockNo) : Option (BlockNo × Recipe) :=
  match (tget q.blocks b).written? with
  | some r => if r.header.id = id then newer best (b, r) else best
  | none => best

theorem Rst.newest?_eq (q : Rst) (id : Nat) : q.newest? id = allBlocks.foldl (q.takeNewer id) none := rfl

/-- The newer of two candidates is one of them, and no older than either. -/
theorem newer_spec (best : Option (BlockNo × Recipe)) (c : BlockNo × Recipe) : ∃ d, newer best c = some d ∧
    (d = c ∨ best = some d) ∧ c.2.header.revision ≤ d.2.header.revision ∧
    ∀ e, best = some e → e.2.header.revision ≤ d.2.header.revision := by
  cases best with
  | none => exact ⟨c, rfl, .inl rfl, le_rfl, nofun⟩
  | some e =>
    unfold newer
    dsimp only
    split
    · next older => exact ⟨c, rfl, .inl rfl, le_rfl, by rintro _ ⟨⟩; exact older.le⟩
    · next newest => exact ⟨e, rfl, .inr rfl, not_lt.1 newest, by rintro _ ⟨⟩; exact le_rfl⟩

/-- A block compared: the best is as before or the block, and no older than before. -/
theorem Rst.takeNewer_spec (q : Rst) (id : Nat) (best : Option (BlockNo × Recipe)) (b : BlockNo) :
    (∀ d, q.takeNewer id best b = some d → best = some d ∨ q.offers id d) ∧
    (∀ e, best = some e ∨ e.1 = b ∧ q.offers id e →
      ∃ d, q.takeNewer id best b = some d ∧ e.2.header.revision ≤ d.2.header.revision) := by
  unfold Rst.takeNewer
  split
  · next r hr =>
    split
    · next hid =>
      obtain ⟨d, hd, which, least, most⟩ := newer_spec best (b, r)
      rw [hd]
      refine ⟨?_, fun e he => ⟨d, rfl, ?_⟩⟩
      · rintro _ ⟨⟩
        rcases which with rfl | which
        · exact .inr ⟨hr, hid⟩
        · exact .inl which
      · rcases he with he | ⟨rfl, he, -⟩
        · exact most e he
        · cases hr.symm.trans he
          exact least
    · next hid =>
      refine ⟨fun d hd => .inl hd, fun e he => ?_⟩
      rcases he with he | ⟨rfl, he, hid'⟩
      · exact ⟨e, he, le_rfl⟩
      · cases hr.symm.trans he
        exact absurd hid' hid
  · next hr =>
    refine ⟨fun d hd => .inl hd, fun e he => ?_⟩
    rcases he with he | ⟨rfl, he, -⟩
    · exact ⟨e, he, le_rfl⟩
    · rw [hr] at he
      cases he

theorem Rst.foldl_takeNewer (q : Rst) (id : Nat) (l : List BlockNo) : ∀ best,
    (∀ d, l.foldl (q.takeNewer id) best = some d → best = some d ∨ q.offers id d) ∧
    (∀ e, best = some e ∨ e.1 ∈ l ∧ q.offers id e →
      ∃ d, l.foldl (q.takeNewer id) best = some d ∧ e.2.header.revision ≤ d.2.header.revision) := by
  induction l with
  | nil => exact fun best => ⟨fun d hd => .inl hd, fun e he => ⟨e, he.resolve_right fun h => List.not_mem_nil h.1, le_rfl⟩⟩
  | cons b l ih =>
    intro best
    obtain ⟨one, above⟩ := q.takeNewer_spec id best b
    obtain ⟨some_of, most⟩ := ih (q.takeNewer id best b)
    refine ⟨fun d hd => ?_, fun e he => ?_⟩
    · rcases some_of d hd with hd | offered
      · exact one d hd
      · exact .inr offered
    · by_cases inRest : e.1 ∈ l ∧ q.offers id e
      · exact most e (.inr inRest)
      · have first : best = some e ∨ e.1 = b ∧ q.offers id e := by
          rcases he with he | ⟨mem, offered⟩
          · exact .inl he
          · exact .inr ⟨(List.mem_cons.1 mem).resolve_right fun rest => inRest ⟨rest, offered⟩, offered⟩
        obtain ⟨d, hd, older⟩ := above e first
        obtain ⟨d', hd', older'⟩ := most d (.inl hd)
        exact ⟨d', hd', older.trans older'⟩

/-- The newest block of an id is WRITTEN with a recipe of that id. -/
theorem Rst.newest?_offers {q : Rst} {id : Nat} {d : BlockNo × Recipe} (h : q.newest? id = some d) : q.offers id d := by
  rw [Rst.newest?_eq] at h
  exact ((q.foldl_takeNewer id allBlocks none).1 d h).resolve_left nofun

/-- It is no older than any other. -/
theorem Rst.newest?_most {q : Rst} {id : Nat} {e : BlockNo × Recipe} (h : q.offers id e) :
    ∃ d, q.newest? id = some d ∧ e.2.header.revision ≤ d.2.header.revision := by
  rw [Rst.newest?_eq]
  exact (q.foldl_takeNewer id allBlocks none).2 e (.inr ⟨mem_allBlocks _, h⟩)

/-- The one block of an id that is newer than all others is the newest (R134). -/
theorem Rst.newest?_eq_some {q : Rst} {id : Nat} {b : BlockNo} {r : Recipe} (hb : q.offers id (b, r))
    (newest : ∀ c r', (tget q.blocks c).written? = some r' → r'.header.id = id → c = b ∨ r'.header.revision < r.header.revision) :
    q.newest? id = some (b, r) := by
  obtain ⟨⟨c, r'⟩, hd, older⟩ := Rst.newest?_most hb
  obtain ⟨written, hid⟩ := Rst.newest?_offers hd
  rcases newest c r' written hid with rfl | newer
  · cases written.symm.trans hb.1
    exact hd
  · exact absurd newer (Nat.not_lt.2 older)

theorem Rst.newest?_eq_none {q : Rst} {id : Nat} (h : ∀ b r, (tget q.blocks b).written? = some r → r.header.id ≠ id) :
    q.newest? id = none := by
  cases hd : q.newest? id with
  | none => rfl
  | some d =>
    obtain ⟨written, hid⟩ := Rst.newest?_offers hd
    exact absurd hid (h d.1 d.2 written)

/-! ### The statement -/

/-- The rule of R132, as it is stated: an ERASE or a PROGRAM that is not nested, that no fetch has asked, and that is asked already
or may be asked for a fetch. -/
theorem Rst.fetchMayWait_iff (q : Rst) (o : Running) : q.fetchMayWait o = true ↔
    ((∃ b r, o.work = .program b r) ∨ ∃ b, o.work = .erase b) ∧ o.nested = false ∧ o.askedFetch = false ∧
      (o.askedExplicit = true ∨ (q.priority = true ∧ q.suspended = none)) := by
  have suspendable : o.work.suspended?.isSome = true ↔ (∃ b r, o.work = .program b r) ∨ ∃ b, o.work = .erase b := by
    cases o.work <;> simp [Work.suspended?]
  rw [Rst.fetchMayWait, Bool.and_eq_true, Bool.and_eq_true, Bool.and_eq_true, Bool.or_eq_true, Bool.and_eq_true,
    Bool.not_eq_true', Bool.not_eq_true', Option.isNone_iff_eq_none, suspendable, and_assoc, and_assoc]

/-- Settles O51: how a fetch is taken, by what runs; and what each kind is answered with. -/
theorem fetchesAreServed : Obligations.FetchesAreServed := by
  refine ⟨fun f s sent => ?_, fun s => ⟨fun f waits => ?_, fun i id => ⟨fun other => ?_, fun b r e rest written hid stages newest => ?_⟩,
    fun i b n r e written stage => ?_, fun i b r written => ?_⟩⟩
  · intro c
    have reaches : exec c s = .next (s.fetchReaches f) := by
      cases f with
      | start i id => change execStartFetch s = _; rw [execStartFetch, sent]
      | stage i b n => change execStageFetch s = _; rw [execStageFetch, sent]
      | limits i b => change execLimitsFetch s = _; rw [execLimitsFetch, sent]
    rw [reaches, State.fetchReaches]
    refine ⟨fun idle => by rw [idle], fun o running => ?_⟩
    rw [running]
    intro asks
    exact ⟨fun busy => congrArg _ (if_neg (mt (s.rst.fetchMayWait_iff o).1 busy)),
      fun may => congrArg _ (if_pos ((s.rst.fetchMayWait_iff o).2 may))⟩
  · rw [State.answerWaiting, waits]
  · rw [State.answerFetch, State.fetchResult, Rst.newest?_eq_none other]
    rfl
  · intro data
    have result : s.fetchResult (.start i id) = data := by
      rw [State.fetchResult, Rst.newest?_eq_some ⟨written, hid⟩ newest]
      dsimp only
      rw [stages]
      dsimp only [data]
      rw [stages]
    rw [State.answerFetch, result]
    rfl
  · have result : s.fetchResult (.stage i b n) = .stage (s.pcu.overlayStage b n e) := by
      rw [State.fetchResult, written, Option.bind_some, stage]
    rw [State.answerFetch, result]
    rfl
  · intro data
    have result : s.fetchResult (.limits i b) = data := by rw [State.fetchResult, written]
    rw [State.answerFetch, result]
    rfl

end Sys2Proof.Machine
end

section
/-! In PRODUCTION every command leaves a locked block as it is, its count apart (R115, R116): each block that a command writes is
another one. -/

namespace Sys2Proof.Machine

/-- The block is `k`, its count apart. -/
def State.Holds (s : State) (b : BlockNo) (k : RecipeBlock) : Prop := { s.block b with refs := 0 } = k

namespace State.Holds

variable {s t : State} {b : BlockNo} {k : RecipeBlock}

theorem of_blocks (h : s.Holds b k) (e : t.rst.blocks = s.rst.blocks) : t.Holds b k := by
  rw [State.Holds, State.block, e]
  exact h

/-- What the block shows but its count. -/
theorem shown (h : t.Holds b { s.block b with refs := 0 }) : (t.block b).state = (s.block b).state ∧
    (t.block b).locked = (s.block b).locked ∧ (t.block b).record = (s.block b).record := by
  simpa only [State.Holds, RecipeBlock.mk.injEq, and_true] using h

/-! ### What writes a block -/

/-- Another block is written. -/
theorem setBlock (h : s.Holds b k) {c : BlockNo} (hc : b ≠ c) (r : RecipeBlock) : (s.setBlock c r).Holds b k := by
  rw [State.Holds, State.block_setBlock, if_neg hc]
  exact h

/-- A count changes. -/
theorem recount (h : s.Holds b k) (c : BlockNo) (n : Nat) : (s.setBlock c { s.block c with refs := n }).Holds b k := by
  rw [State.Holds, State.block_setBlock]
  split
  · next e =>
    subst e
    exact h
  · exact h

theorem releaseRefOf (h : s.Holds b k) (r : SlotRecord) : (s.releaseRefOf r).Holds b k := by
  unfold State.releaseRefOf
  split
  · exact h.recount _ _
  · exact h

theorem answerFetch (h : s.Holds b k) (f : Fetch) : (s.answerFetch f).Holds b k := by
  have counted : (s.countRef (s.fetchResult f)).Holds b k := by
    unfold State.countRef
    split
    · exact h.recount _ _
    · exact h
  exact counted.of_blocks rfl

theorem answerWaiting (h : s.Holds b k) : s.answerWaiting.Holds b k := by
  unfold State.answerWaiting
  split
  · exact h.answerFetch _
  · exact h

theorem fetchReaches (h : s.Holds b k) (f : Fetch) : (s.fetchReaches f).Holds b k := by
  unfold State.fetchReaches
  split
  · exact h.answerFetch f
  · split <;> exact h.of_blocks rfl

theorem begins (h : s.Holds b k) {c : BlockNo} (hc : b ≠ c) (o : Option Running) : ((s.invalidate c).setRunning o).Holds b k :=
  (h.setBlock hc _).of_blocks (by rw [s.invalidate_eq]; rfl)

/-! ### SSQ (R49, R67): a reference given up -/

theorem clearSlot (h : s.Holds b k) (i : Slot) : (s.clearSlot i).Holds b k :=
  (h.releaseRefOf (s.slot i)).of_blocks (by simp [State.clearSlot, State.setNote])

theorem gradeSlot (h : s.Holds b k) (i : Slot) (r : SlotRecord) (l : Option Limits) (n : Nat) : (s.gradeSlot i r l n).Holds b k :=
  (h.releaseRefOf r).of_blocks rfl

theorem gradeToSpinDown (h : s.Holds b k) (i : Slot) (r : SlotRecord) (l : Option Limits) (n : Nat) :
    (s.gradeToSpinDown i r l n).Holds b k := (h.gradeSlot i { r with state := .spinDown, exit := .dispatch } l n).of_blocks rfl

theorem serveAbsent (h : s.Holds b k) (i : Slot) : (s.serveAbsent i).Holds b k := by
  unfold State.serveAbsent
  dsimp only
  repeat' split
  · exact h.of_blocks rfl
  · exact h.of_blocks rfl
  · unfold State.loseDrive
    dsimp only
    refine of_blocks (s := State.clearSlot _ i) (clearSlot ?_ i) rfl
    split <;> exact h.of_blocks (by simp)

theorem serveLatchOpen (h : s.Holds b k) (i : Slot) : (s.serveLatchOpen i).Holds b k := by
  have opened : (s.putSlot i { s.slot i with closed := false }).Holds b k := h.of_blocks rfl
  unfold State.serveLatchOpen
  dsimp only
  split
  · exact opened
  · exact opened.gradeToSpinDown _ _ _ _
  · exact opened.gradeToSpinDown _ _ _ _
  · exact opened.gradeToSpinDown _ _ _ _
  · exact opened.gradeToSpinDown _ _ _ _
  · exact opened

theorem serveOvertemp (h : s.Holds b k) (i : Slot) : (s.serveOvertemp i).Holds b k := by
  unfold State.serveOvertemp
  split
  · exact (h.gradeToSpinDown i (s.faulted i .overtemp) none s.pcu.generation).of_blocks rfl
  · exact h

theorem serveStartAnswer (h : s.Holds b k) (i : Slot) (n : Nat) (r : FetchResult) : (s.serveStartAnswer i n r).Holds b k := by
  unfold State.serveStartAnswer
  repeat' split
  case h_3.isFalse c _ _ _ _ => exact (h.recount c ((s.block c).refs - 1)).of_blocks rfl
  all_goals exact h.of_blocks (by simp)

theorem serveLimitsAnswer (h : s.Holds b k) (i : Slot) (r : FetchResult) : (s.serveLimitsAnswer i r).Holds b k := by
  unfold State.serveLimitsAnswer
  repeat' split
  case h_2.isTrue table credit n _ => exact (h.gradeToSpinDown i (s.slot i) (some ⟨table, credit⟩) n).of_blocks (by simp)
  all_goals exact h.of_blocks (by simp)

theorem serveAbort (h : s.Holds b k) (m n : Nat) : (serveAbort m n s).1.Holds b k := by
  unfold Machine.serveAbort
  dsimp only
  split
  · next i c _ _ =>
    split
    · exact (h.gradeSlot i (s.faulted i c) none s.pcu.generation).of_blocks (by simp)
    · split
      · exact h.gradeToSpinDown _ _ _ _
      · exact h
  · exact h

theorem serveAccessDone (h : s.Holds b k) (m n : Nat) : (serveAccessDone m n s).1.Holds b k := by
  have unloaded (i : Slot) : (s.unloadPlaced i).Holds b k := by
    unfold State.unloadPlaced
    split
    · exact clearSlot (h.of_blocks (by simp)) i
    · exact h
  have ended (r : Fin 2) (u : AccessUse) (p o q : Bool) : (s.endAccess r u p o q).1.Holds b k := by
    unfold State.endAccess
    dsimp only
    repeat' split
    · exact h.of_blocks (by simp)
    · exact h
    · exact h
    · exact (unloaded u.target).of_blocks (by simp)
    · exact h.of_blocks (by simp)
    · exact h
  unfold Machine.serveAccessDone
  repeat' split
  · exact ended _ _ _ _ _
  all_goals exact h

/-! ### The ends of store operations -/

theorem ends (h : t.Holds b k) (o : Running) (m : NoticeKind) (n : Nat) : ((t.endRunning o).post m n).Holds b k := by
  have gone : (t.setRunning none).Holds b k := h.of_blocks rfl
  refine of_blocks (s := t.endRunning o) ?_ rfl
  unfold State.endRunning
  dsimp only
  split
  · exact gone.answerWaiting
  · exact gone

theorem endsUnforced (h : t.Holds b k) (o : Running) (m : NoticeKind) (n : Nat) :
    ((t.clearOverride.endRunning o).post m n).Holds b k := (of_blocks (t := t.clearOverride) h rfl).ends o m n

theorem recordError (h : s.Holds b k) (e : StoreErrorKind) (c : BlockNo) : (s.recordError e c).Holds b k :=
  h.of_blocks (by rw [s.recordError_eq])

theorem programEnds (h : s.Holds b k) {c : BlockNo} (hc : b ≠ c) (o : Running) (r : Recipe) (ok : Bool) :
    (s.programEnds o c r ok).Holds b k := by
  cases ok
  · exact (h.recordError _ c).endsUnforced _ _ _
  · exact (h.setBlock hc _).endsUnforced _ _ _

theorem eraseEnds (h : s.Holds b k) {c : BlockNo} (hc : b ≠ c) (o : Running) (ok : Bool) : (s.eraseEnds o c ok).Holds b k := by
  cases ok
  · exact (h.recordError _ c).endsUnforced _ _ _
  · exact (h.setBlock hc _).endsUnforced _ _ _

theorem blankCheckEnds (h : s.Holds b k) {c : BlockNo} (hc : b ≠ c) (o : Running) (p : BlockState) (ok : Bool) :
    (s.blankCheckEnds o c p ok).Holds b k := by
  cases ok
  · exact ((h.setBlock hc _).recordError _ c).ends _ _ _
  · exact (h.setBlock hc _).ends _ _ _

theorem lockEnds (h : s.Holds b k) {c : BlockNo} (hc : b ≠ c) (o : Running) : (s.lockEnds o c).Holds b k :=
  (h.setBlock hc _).endsUnforced o _ _

theorem serveStop (h : s.Holds b k) : (serveStop s).1.Holds b k := by
  have stopped : s.stopRunning.Holds b k := by
    unfold State.stopRunning
    split
    · exact h
    · exact h.ends _ _ _
  unfold Machine.serveStop
  split
  · exact h
  · refine of_blocks stopped ?_
    unfold State.stopSuspended
    split <;> rfl

theorem suspendOrGoOn (h : s.Holds b k) (o : Running) : (s.suspendOrGoOn o).Holds b k := by
  unfold State.suspendOrGoOn
  split <;> exact h.of_blocks rfl

/-! ### The events that count a reference or give one up, and the suspension event -/

theorem presenceAbsentAtSsq (h : s.Holds b k) (i : Slot) (ht : execPresenceAbsentAtSsq i s = .next t) : t.Holds b k := by
  unfold execPresenceAbsentAtSsq at ht
  split at ht <;> cases ht
  · exact serveAbsent (s := s.setMail i _) h i
  · exact h

theorem latchOpenAtSsq (h : s.Holds b k) (i : Slot) (ht : execLatchOpenAtSsq i s = .next t) : t.Holds b k := by
  unfold execLatchOpenAtSsq at ht
  split at ht <;> cases ht
  · exact serveLatchOpen (s := s.setMail i _) h i
  · exact h

theorem overtempEvent (h : s.Holds b k) (i : Slot) (ht : execOvertempEvent i s = .next t) : t.Holds b k := by
  unfold execOvertempEvent at ht
  split at ht <;> cases ht
  · exact h
  · exact serveOvertemp (s := s.setMail i _) h i

theorem startFetchAnswer (h : s.Holds b k) (ht : execStartFetchAnswer s = .next t) : t.Holds b k := by
  unfold execStartFetchAnswer at ht
  split at ht <;> cases ht
  · exact serveStartAnswer (s := s.endFetch) h _ _ _
  · exact h

theorem limitsFetchAnswer (h : s.Holds b k) (ht : execLimitsFetchAnswer s = .next t) : t.Holds b k := by
  unfold execLimitsFetchAnswer at ht
  split at ht <;> cases ht
  · exact serveLimitsAnswer (s := s.endFetch) h _ _
  · exact h

theorem startFetch (h : s.Holds b k) (ht : execStartFetch s = .next t) : t.Holds b k := by
  unfold execStartFetch at ht
  split at ht <;> cases ht
  · exact h.fetchReaches _
  · exact h

theorem stageFetch (h : s.Holds b k) (ht : execStageFetch s = .next t) : t.Holds b k := by
  unfold execStageFetch at ht
  split at ht <;> cases ht
  · exact h.fetchReaches _
  · exact h

theorem limitsFetch (h : s.Holds b k) (ht : execLimitsFetch s = .next t) : t.Holds b k := by
  unfold execLimitsFetch at ht
  split at ht <;> cases ht
  · exact h.fetchReaches _
  · exact h

theorem suspensionEvent (h : s.Holds b k) (ht : execSuspensionEvent s = .next t) : t.Holds b k := by
  unfold execSuspensionEvent at ht
  repeat' split at ht
  all_goals cases ht
  · exact (h.answerWaiting.suspendOrGoOn _).of_blocks (t := State.clearOverride _) rfl
  · exact (h.suspendOrGoOn _).of_blocks (t := State.clearOverride _) rfl
  · exact h
  · exact h

end State.Holds

/-! ### Requests -/

theorem receiveAll_blocks (l : Link) (bs : List Byte) (s : State) :
    (bs.foldl (fun t x => t.receive l x) s).rst.blocks = s.rst.blocks := by
  induction bs generalizing s with
  | nil => rfl
  | cons x xs ih => exact (ih _).trans (s.receive_blocks l x)

/-! ### No CLEAR runs in PRODUCTION (R124) -/

section

variable {s t : State} (hs : StoreLaws s.rst) (hm : s.rst.mode = .production)
include hs hm

theorem clearBlockErasure_production (ht : execClearBlockErasure s = .next t) : t = s := by
  unfold execClearBlockErasure at ht
  split at ht
  · next run =>
    obtain ⟨-, engineering⟩ := (hs.running _ run).1
    cases hm.symm.trans engineering
  · cases ht
    rfl

theorem clearBlockCompletion_production (ok : Bool) (ht : execClearBlockCompletion ok s = .next t) : t = s := by
  unfold execClearBlockCompletion at ht
  split at ht
  · next run =>
    obtain ⟨-, -, engineering⟩ := (hs.running _ run).1
    cases hm.symm.trans engineering
  · cases ht
    rfl

end

section

variable {s : State} (hs : StoreLaws s.rst) {b : BlockNo} (hb : (s.block b).locked = true)
include hs hb

/-- A locked block is no block that is not WRITTEN. -/
theorem StoreLaws.locked_ne {c : BlockNo} (hc : (s.block c).state ≠ .written) : b ≠ c := by
  rintro rfl
  exact hc (hs.locks b hb)

/-- A locked block is no INVALID block. -/
theorem StoreLaws.invalid_ne {c : BlockNo} (hc : (s.block c).state = .invalid) : b ≠ c := hs.locked_ne hb (by rw [hc]; decide)

/-- A request keeps a locked block in PRODUCTION: PROGRAM takes a BLANK block, BLANK CHECK none that is WRITTEN, and ERASE none that
is locked. -/
theorem service_holds (hm : s.rst.mode = .production) {k : RecipeBlock} (h : s.Holds b k) (c : Instr) :
    (service c s).1.Holds b k := by
  cases c with
  | program n =>
    refine State.Holds.of_blocks ?_ (storeRequest_blocks _ _)
    unfold serveProgram
    repeat' split
    · exact h
    · exact h
    · exact h
    · exact h
    · exact h
    · exact h
    · next blank _ _ _ _ _ => exact h.begins (hs.locked_ne hb (by rw [not_not.1 blank]; decide)) _
  | erase n =>
    refine State.Holds.of_blocks ?_ (storeRequest_blocks _ _)
    unfold serveErase
    repeat' split
    · exact h
    · exact h
    · exact h
    · exact h
    · exact h
    · next allowed _ _ =>
      refine h.begins ?_ _
      rintro rfl
      exact allowed ⟨hb, hs.override hm⟩
  | blankCheck n =>
    refine State.Holds.of_blocks ?_ (storeRequest_blocks _ _)
    unfold serveBlankCheck
    repeat' split
    · exact h
    · exact h
    · exact h
    · exact h
    · next unwritten _ => exact h.begins (hs.locked_ne hb unwritten) _
  | stop => exact h.serveStop.of_blocks (storeRequest_blocks _ _)
  | abort m n => exact h.serveAbort m n
  | accessDone m n => exact h.serveAccessDone m n
  | _ => exact h.of_blocks (by simp [service, storeRequest_blocks])

/-- A request keeps a locked block in PRODUCTION. -/
theorem request_holds (hm : s.rst.mode = .production) {k : RecipeBlock} (h : s.Holds b k) (l : Link) (c : Instr) :
    (s.request l c (service c)).Holds b k := by
  rcases s.request_cases l c (service c) with e | e | e <;> rw [e]
  · exact (service_holds hs hb hm h c).of_blocks (by simp)
  · exact h.of_blocks (by simp)
  · exact h.of_blocks (by simp)

/-! ### Events: an operation works on no locked block (R114, R125) -/

section

variable {t : State} {k : RecipeBlock} (h : s.Holds b k)
include h

theorem programCompletion_holds (ok : Bool) (ht : execProgramCompletion ok s = .next t) : t.Holds b k := by
  unfold execProgramCompletion at ht
  split at ht <;> cases ht
  · next run => exact h.programEnds (hs.invalid_ne hb (hs.running _ run).1) _ _ ok
  · exact h

theorem eraseCompletion_holds (ok : Bool) (ht : execEraseCompletion ok s = .next t) : t.Holds b k := by
  unfold execEraseCompletion at ht
  split at ht <;> cases ht
  · next run => exact h.eraseEnds (hs.invalid_ne hb (hs.running _ run).1) _ ok
  · exact h

theorem blankCheckCompletion_holds (ok : Bool) (ht : execBlankCheckCompletion ok s = .next t) : t.Holds b k := by
  unfold execBlankCheckCompletion at ht
  split at ht <;> cases ht
  · next run =>
    obtain ⟨invalid, -⟩ := (hs.running _ run).1
    exact h.blankCheckEnds (hs.invalid_ne hb invalid) _ _ ok
  · exact h

theorem lockCompletion_holds (ht : execLockCompletion s = .next t) : t.Holds b k := by
  unfold execLockCompletion at ht
  split at ht <;> cases ht
  · next run =>
    obtain ⟨-, unlocked⟩ := (hs.running _ run).1
    refine h.lockEnds ?_ _
    rintro rfl
    exact Bool.false_ne_true (unlocked.symm.trans hb)
  · exact h

variable (hm : s.rst.mode = .production)
include hm

/-- An event keeps a locked block in PRODUCTION: one that ends an operation, one that counts a reference or gives one up, and the
others, which write no block. -/
theorem event_holds (c : Instr) (hr : requestLink c = none) (ht : exec c s = .next t) : t.Holds b k := by
  cases c with
  | resetEffect =>
    cases ht
    rw [State.Holds, State.block, State.afterReset, Rst.afterReset, tget_tof]
    exact h
  | presenceAbsentAtSsq i => exact h.presenceAbsentAtSsq i ht
  | latchOpenAtSsq i => exact h.latchOpenAtSsq i ht
  | overtempEvent i => exact h.overtempEvent i ht
  | startFetchAnswer => exact h.startFetchAnswer ht
  | limitsFetchAnswer => exact h.limitsFetchAnswer ht
  | startFetch => exact h.startFetch ht
  | stageFetch => exact h.stageFetch ht
  | limitsFetch => exact h.limitsFetch ht
  | suspensionEvent => exact h.suspensionEvent ht
  | programCompletion ok => exact programCompletion_holds hs hb h ok ht
  | eraseCompletion ok => exact eraseCompletion_holds hs hb h ok ht
  | blankCheckCompletion ok => exact blankCheckCompletion_holds hs hb h ok ht
  | lockCompletion => exact lockCompletion_holds hs hb h ht
  | clearBlockErasure => rwa [clearBlockErasure_production hs hm ht]
  | clearBlockCompletion ok => rwa [clearBlockCompletion_production hs hm ok ht]
  | requestFrame l bs => cases ht; exact h.of_blocks (receiveAll_blocks l bs s)
  | lengthFault l x => cases ht; exact h.of_blocks (s.receive_blocks l x)
  | receivedByte l x => cases ht; exact h.of_blocks (s.receive_blocks l x)
  | frameTimeout l => exact h.of_blocks (by simp [execFrameTimeout_frame s t l ht])
  | responseSent l => exact h.of_blocks (by simp [execResponseSent_frame s t l ht])
  | rackTimeAdvance => exact h.of_blocks (by simp [execRackTimeAdvance_frame s t ht])
  | deadlineExpiry i => exact h.of_blocks (by simp [execDeadlineExpiry_frame s t i ht])
  | accountingTick => exact h.of_blocks (by simp [execAccountingTick_frame s t ht])
  | creditEvent i => exact h.of_blocks (by simp [execCreditEvent_frame s t i ht])
  | sample p q => exact h.of_blocks (by simp [execSample_frame s t p q ht])
  | presencePresentAtSsq i => exact h.of_blocks (by simp [execPresencePresentAtSsq_frame s t i ht])
  | latchClosedAtSsq i => exact h.of_blocks (by simp [execLatchClosedAtSsq_frame s t i ht])
  | presenceChangeAtQac i => exact h.of_blocks (by simp [execPresenceChangeAtQac_frame s t i ht])
  | disturbanceOrder i => exact h.of_blocks (by simp [execDisturbanceOrder_frame s t i ht])
  | askOrder i => exact h.of_blocks (by simp [execAskOrder_frame s t i ht])
  | releaseQuietOrder i => exact h.of_blocks (by simp [execReleaseQuietOrder_frame s t i ht])
  | slotChangeReport i => exact h.of_blocks (by simp [execSlotChangeReport_frame s t i ht])
  | quietTimeoutExpiry r => exact h.of_blocks (by simp [execQuietTimeoutExpiry_frame s t r ht])
  | holdLimitExpiry r => exact h.of_blocks (by simp [execHoldLimitExpiry_frame s t r ht])
  | scanStart => exact h.of_blocks (by simp [execScanStart_frame s t ht])
  | sensorReading r => exact h.of_blocks (by simp [execSensorReading_frame s t r ht])
  | captureReport i => exact h.of_blocks (by simp [execCaptureReport_frame s t i ht])
  | spinUpStartReport i => exact h.of_blocks (by simp [execSpinUpStartReport_frame s t i ht])
  | spinUpTimerExpiry i => exact h.of_blocks (by simp [execSpinUpTimerExpiry_frame s t i ht])
  | spinUpExpiry i => exact h.of_blocks (by simp [execSpinUpExpiry_frame s t i ht])
  | powerOffOrder i => exact h.of_blocks (by simp [execPowerOffOrder_frame s t i ht])
  | spinDownOrder i => exact h.of_blocks (by simp [execSpinDownOrder_frame s t i ht])
  | releaseOrder i => exact h.of_blocks (by simp [execReleaseOrder_frame s t i ht])
  | spinDownTimerExpiry i => exact h.of_blocks (by simp [execSpinDownTimerExpiry_frame s t i ht])
  | spinDownExpiry i => exact h.of_blocks (by simp [execSpinDownExpiry_frame s t i ht])
  | stageFetchAnswer => exact h.of_blocks (by simp [execStageFetchAnswer_frame s t ht])
  | _ => cases hr

end

end

/-- Settles O53: a request and an event each keep a locked block, its count apart. -/
theorem productionKeepsLockedBlocks : Obligations.ProductionKeepsLockedBlocks := by
  intro s t b h mode locked ht
  have kept : t.Holds b { s.block b with refs := 0 } := by
    rcases step_cases s t ht with rfl | ⟨c, rest, -, hc⟩
    · rfl
    · have now : State.Holds { s with pending := rest } b { s.block b with refs := 0 } := rfl
      cases hr : requestLink c with
      | some l =>
        rw [exec_request c l _ hr] at hc
        cases hc
        exact request_holds (s := { s with pending := rest }) h.store locked mode now l c
      | none => exact event_holds (s := { s with pending := rest }) h.store locked now mode c hr hc
  obtain ⟨state, lock, record⟩ := kept.shown
  exact ⟨state.trans (h.store.locks b locked), lock.trans locked, record⟩

end Sys2Proof.Machine
end
